-- ==== Sys2Proof/Word.lean ====
section
/-! DEFINITION. The word types of the model, sets of slots as bit fields, and tables of a fixed number of records. -/

namespace Sys2Proof

/-- A byte of the command port or of a lane (R144, R163). -/
abbrev Byte := BitVec 8

/-- A counter: 32 bits, saturating (00_scope, Conventions). -/
abbrev Counter := BitVec 32

/-- A stamp: the integer nanosecond part of TIME at an event (R133). -/
abbrev Stamp := BitVec 64

/-- A sequence number, modulo 2^32 (00_scope, Conventions). -/
abbrev Seq := BitVec 32

/-- A set of members 0 to n - 1, with member i at bit i as the port encodes it (R171). -/
abbrev FlagSet (n : Nat) := BitVec n

/-- Whether `i` is a member. -/
def FlagSet.mem {n : Nat} (s : FlagSet n) (i : Nat) : Bool := s.getLsbD i

/-- The set with `i` added; a member already there stays once. -/
def FlagSet.insert {n : Nat} (s : FlagSet n) (i : Nat) : FlagSet n := s ||| BitVec.twoPow n i

/-- The set with `i` taken out. -/
def FlagSet.erase {n : Nat} (s : FlagSet n) (i : Nat) : FlagSet n := s &&& ~~~ (BitVec.twoPow n i)

/-- The set of those indices that satisfy `p`. -/
def FlagSet.ofPred {n : Nat} (p : Fin n → Bool) : FlagSet n := BitVec.ofFnLE p

/-- The set with no member. -/
def FlagSet.empty (n : Nat) : FlagSet n := 0#n

/-- A table of exactly `n` records. -/
structure Table (α : Type) (n : Nat) where
  cells : List α
  size_eq : cells.length = n
  deriving DecidableEq, Repr

namespace Table

variable {α β : Type} {n : Nat}

/-- Record `i`. -/
def get (t : Table α n) (i : Fin n) : α := t.cells.get (i.cast t.size_eq.symm)

/-- The table with record `i` replaced. -/
def set (t : Table α n) (i : Fin n) (a : α) : Table α n :=
  ⟨t.cells.set i.val a, by rw [List.length_set]; exact t.size_eq⟩

/-- The table with record `i` changed by `f`. -/
def modify (t : Table α n) (i : Fin n) (f : α → α) : Table α n := t.set i (f (t.get i))

/-- The table whose record `i` is `f i`. -/
def ofFn (f : Fin n → α) : Table α n := ⟨List.ofFn f, List.length_ofFn⟩

/-- Every record changed by `f`, which sees the record's index. -/
def mapIdx (f : Fin n → α → β) (t : Table α n) : Table β n := ofFn fun i => f i (t.get i)

/-- Every record changed by `f`. -/
def map (f : α → β) (t : Table α n) : Table β n := ⟨t.cells.map f, by rw [List.length_map]; exact t.size_eq⟩

/-- Every record equal to `a`. -/
def replicate (n : Nat) (a : α) : Table α n := ⟨List.replicate n a, List.length_replicate⟩

/-- The lowest index whose record satisfies `p` (R4, R26, R78 choose slots and contexts so). -/
def lowest (p : Fin n → α → Bool) (t : Table α n) : Option (Fin n) :=
  (List.finRange n).find? fun i => p i (t.get i)

end Table

end Sys2Proof
end

