-- ==== Sys2Proof/Syntax.lean ====
section
/-! DEFINITION. The commands of the HK316: one constructor for each row of spec/opcode_table.json. -/

namespace Sys2Proof

/-- A line port, L0 to L5 (00_scope). -/
abbrev Line := Fin 6

/-- A radio line, L0 to L3 (R1). -/
abbrev RadioLine := Fin 4

/-- A fibre line, L4 (0) or L5 (1) (R1). -/
abbrev FibreLine := Fin 2

/-- A local port, P0 to P3 (00_scope). -/
abbrev Port := Fin 4

/-- A path slot, 0 to 31 (R1). -/
abbrev PathSlot := Fin 32

/-- A feed slot, 0 to 63 (R77). -/
abbrev FeedSlot := Fin 64

/-- A sounding context, 0 to 15 (R23). -/
abbrev ContextId := Fin 16

/-- A moment of a frame on a lane: its first byte, at which its stamp is taken from TIME (R133), or its last byte, at which the lane has delimited its bytes and the frame is
taken and judged (R148, R152). A frame whose last byte alone is sent arrives whole in one core tick (log 9). -/
inductive Arrival where
  | firstByte
  | lastByte
  deriving DecidableEq, Repr

/-- The level of RESET_N (R176). With it driven low stands what has come of a transaction then open, the complete bytes on MOSI: it is abandoned (R163). -/
inductive ResetLevel where
  | low (sent : List Byte)
  | high
  deriving DecidableEq, Repr

/-- A command of the block. A request carries `body`, the complete bytes after its command code in its transaction (R163, R166). A line frame carries its line, a moment of its
arrival and its bytes (R148), a local frame its port, a moment of its arrival and its bytes (R152); the bytes are read at the last byte. -/
inductive Instr where
  /-- READ_STATUS (R169): one byte time; `further` when CS_N is still low from the byte before it (log 4). -/
  | readStatus (further : Bool)
  /-- READ_RESPONSE (R168): `clocked` bytes are clocked after the first. -/
  | readResponse (clocked : Nat)
  /-- IDENT_READ (R173), code 02h. -/
  | identRead (body : List Byte)
  /-- SOFT_RESET (R174), code 03h. -/
  | softReset (body : List Byte)
  /-- END_OF_WALK (R174). -/
  | endOfWalk
  /-- SEED (R27), code 04h. -/
  | seed (body : List Byte)
  /-- PATH_ADD (R4), code 10h. -/
  | pathAdd (body : List Byte)
  /-- PATH_SET (R16), code 11h. -/
  | pathSet (body : List Byte)
  /-- PATH_HOLD (R8), code 12h. -/
  | pathHold (body : List Byte)
  /-- PATH_RELEASE (R9), code 13h. -/
  | pathRelease (body : List Byte)
  /-- PATH_REQUALIFY (R11), code 14h. -/
  | pathRequalify (body : List Byte)
  /-- PATH_RETIRE (R12), code 15h. -/
  | pathRetire (body : List Byte)
  /-- PATH_READ (R17), code 16h. -/
  | pathRead (body : List Byte)
  /-- PATH_FIND (R18), code 17h. -/
  | pathFind (body : List Byte)
  /-- FEED_OPEN (R78, R79), code 20h. -/
  | feedOpen (body : List Byte)
  /-- FEED_SET (R80), code 21h. -/
  | feedSet (body : List Byte)
  /-- FEED_CLOSE (R81), code 22h. -/
  | feedClose (body : List Byte)
  /-- FEED_READ (R82), code 23h. -/
  | feedRead (body : List Byte)
  /-- FEED_FIND (R82), code 24h. -/
  | feedFind (body : List Byte)
  /-- FEED_SCAN (R83), code 25h. -/
  | feedScan (body : List Byte)
  /-- RANK_READ (R95), code 26h. -/
  | rankRead (body : List Byte)
  /-- CLASS_SET (R87), code 30h. -/
  | classSet (body : List Byte)
  /-- SYSTEM_SET (R172), code 31h. -/
  | systemSet (body : List Byte)
  /-- LINE_SET (R112), code 32h. -/
  | lineSet (body : List Byte)
  /-- LINE_READ (R113), code 33h. -/
  | lineRead (body : List Byte)
  /-- TIME_READ (R134), code 40h. -/
  | timeRead (body : List Byte)
  /-- TIME_SET_NOW (R138): code 41h with a mode byte other than AT PPS. -/
  | timeSetNow (body : List Byte)
  /-- TIME_SET_AT_PPS (R139): code 41h with the mode byte AT PPS. -/
  | timeSetAtPps (body : List Byte)
  /-- TIME_STEP (R135), code 42h. -/
  | timeStep (body : List Byte)
  /-- TIME_SLEW (R136), code 43h. -/
  | timeSlew (body : List Byte)
  /-- TIME_RATE (R132), code 44h. -/
  | timeRate (body : List Byte)
  /-- PPS_READ (R140), code 45h. -/
  | ppsRead (body : List Byte)
  /-- EVENT_READ (R156), code 50h. -/
  | eventRead (body : List Byte)
  /-- EVENT_CLEAR (R157), code 51h. -/
  | eventClear (body : List Byte)
  /-- EVENT_MASK (R158), code 52h. -/
  | eventMask (body : List Byte)
  /-- NOTICE_READ (R160), code 53h. -/
  | noticeRead (body : List Byte)
  /-- NOTICE_CLEAR (R160), code 54h. -/
  | noticeClear (body : List Byte)
  /-- HARDWARE_RESET (R176): RESET_N is driven low, or rises and initialisation begins (log 17). -/
  | hardwareReset (level : ResetLevel)
  /-- INITIALISATION_END (R176). -/
  | initialisationEnd
  /-- PPS_EDGE (R140): a rising edge on PPS_IN. -/
  | ppsEdge
  /-- TIME_SET_EXPIRY (R141). -/
  | timeSetExpiry
  /-- CORE_TICK (R131): `n` core ticks one after another, with nothing between them (log 7). -/
  | coreTick (n : Nat)
  /-- SLEW_CORRECTION (R136): the 1,000th tick, which carries a correction (log 8). -/
  | slewCorrection
  /-- MS_TICK (R19). -/
  | msTick
  /-- WINDOW_CLOSE (R70). -/
  | windowClose
  /-- STATUS_TIMER_EXPIRY (R61). -/
  | statusTimerExpiry (line : RadioLine)
  /-- SOUNDING_DUE (R25): the path's next-due time is reached. -/
  | soundingDue (slot : PathSlot)
  /-- SOUNDING_LOST (R31): TIME passes the context's deadline. -/
  | soundingLost (context : ContextId)
  /-- FEED_FRAME (R149). -/
  | feedFrame (line : Line) (arrival : Arrival) (bytes : List Byte)
  /-- SOUND_FRAME (R37). -/
  | soundFrame (line : Line) (arrival : Arrival) (bytes : List Byte)
  /-- ECHO_FRAME (R32). -/
  | echoFrame (line : Line) (arrival : Arrival) (bytes : List Byte)
  /-- MODEM_STATUS_FRAME (R60). -/
  | modemStatusFrame (line : Line) (arrival : Arrival) (bytes : List Byte)
  /-- BAD_KIND_FRAME (R148). -/
  | badKindFrame (line : Line) (arrival : Arrival) (bytes : List Byte)
  /-- LOCAL_FRAME (R84). -/
  | localFrame (port : Port) (arrival : Arrival) (bytes : List Byte)
  /-- PRESENT_N_INACTIVE (R62). -/
  | presentNInactive (line : RadioLine)
  /-- PRESENT_N_ACTIVE (R62). -/
  | presentNActive (line : RadioLine)
  /-- LOCK_GAINED (R63). -/
  | lockGained (line : FibreLine)
  /-- LOCK_LOST (R63). -/
  | lockLost (line : FibreLine)
  /-- FRAME_COMPLETION (R108). -/
  | frameCompletion (line : Line)
  /-- LOCAL_SEND_END (R126). -/
  | localSendEnd (port : Port)
  /-- COMMAND_COMPLETION (R167). -/
  | commandCompletion
  /-- UNKNOWN_COMMAND (R166): a request whose first byte is `code`, which names no command. -/
  | unknownCommand (code : Byte) (body : List Byte)
  deriving DecidableEq, Repr

end Sys2Proof
end

