-- ==== Sys2Proof/Decode.lean ====
section
/-! DEFINITION. The kind of frame that bytes on a line spell, the commands of a transaction's bytes, and the command a word spells. spec/opcode_table.json gives no row any bits, so no word spells one (log 2). -/

namespace Sys2Proof

/-- The header length of a line frame of the kind byte `k`: none for a byte that names no kind (R144, R145, R148). -/
def headerLength (k : Byte) : Option Nat :=
  if k = 0x01#8 then some 32
  else if k = 0x02#8 then some 16
  else if k = 0x03#8 then some 16
  else if k = 0x04#8 then some 8
  else none

/-- The mode byte AT PPS of TIME-SET (11.5). -/
def modeAtPps : Byte := 0x01#8

/-- Whether step 3 of R148 passes the bytes on: a known kind byte and a whole header. -/
def hasWholeHeader (bytes : List Byte) : Bool :=
  match bytes with
  | [] => false
  | k :: _ =>
    match headerLength k with
    | none => false
    | some n => n ≤ bytes.length

/-- The commands of one transaction of the command port, from its first byte and the complete bytes after it: 00h is READ-STATUS, one command for each byte (log 4), 01h is
READ-RESPONSE, and every other value a request, of the command that the catalogue gives the code or of none (R163, 11.5). -/
def transactionOf (first : Byte) (body : List Byte) : List Instr :=
  match first.toNat with
  | 0x00 => .readStatus false :: body.map fun _ => .readStatus true
  | 0x01 => [.readResponse body.length]
  | 0x02 => [.identRead body]
  | 0x03 => [.softReset body]
  | 0x04 => [.seed body]
  | 0x10 => [.pathAdd body]
  | 0x11 => [.pathSet body]
  | 0x12 => [.pathHold body]
  | 0x13 => [.pathRelease body]
  | 0x14 => [.pathRequalify body]
  | 0x15 => [.pathRetire body]
  | 0x16 => [.pathRead body]
  | 0x17 => [.pathFind body]
  | 0x20 => [.feedOpen body]
  | 0x21 => [.feedSet body]
  | 0x22 => [.feedClose body]
  | 0x23 => [.feedRead body]
  | 0x24 => [.feedFind body]
  | 0x25 => [.feedScan body]
  | 0x26 => [.rankRead body]
  | 0x30 => [.classSet body]
  | 0x31 => [.systemSet body]
  | 0x32 => [.lineSet body]
  | 0x33 => [.lineRead body]
  | 0x40 => [.timeRead body]
  | 0x41 => if body.head? = some modeAtPps then [.timeSetAtPps body] else [.timeSetNow body]
  | 0x42 => [.timeStep body]
  | 0x43 => [.timeSlew body]
  | 0x44 => [.timeRate body]
  | 0x45 => [.ppsRead body]
  | 0x50 => [.eventRead body]
  | 0x51 => [.eventClear body]
  | 0x52 => [.eventMask body]
  | 0x53 => [.noticeRead body]
  | 0x54 => [.noticeClear body]
  | _ => [.unknownCommand first body]

/-- The command that `nbits` bits of `w` spell by the table's bits: none, since the table gives no row bits. -/
def decodeTableWord (_nbits _w : Nat) : Option Instr := none

end Sys2Proof
end

