-- ==== Sys2Proof/Config.lean ====
section
/-! DEFINITION. What the part fixes: capacities, codes and times; and the one free value, a result that the manual does not state (log 31). -/

namespace Sys2Proof.Config

/-- Cells of the pool, 64 bytes each (R98). -/
def poolCells : Nat := 4096

/-- The ISOLATED cap of one line: the pool divided among six lines, rounded down (R101). -/
def isolatedCap : Nat := 682

/-- URGENT cells the reserve keeps for each line (R100). -/
def reservePerLine : Nat := 32

/-- Entries of one line's echo slot (R37). -/
def echoSlotSize : Nat := 4

/-- Frames of one local port's transmit FIFO (R126). -/
def fifoFrames : Nat := 64

/-- Longest payload of a message, in bytes (R84). -/
def maxPayload : Nat := 1024

/-- Core ticks in a microsecond: the core clock runs at 400 MHz (00_scope, Conventions). -/
def ticksPerMicro : Nat := 400

/-- Core ticks in a millisecond (00_scope, Conventions). -/
def ticksPerMilli : Nat := 400 * 1000

/-- Core ticks of the status timer, 5 ms (R61). -/
def statusTimerTicks : Nat := 5 * ticksPerMilli

/-- Core ticks of a pending TIME-SET's expiry, 2 s (R139). -/
def setExpiryTicks : Nat := 2000 * ticksPerMilli

/-- The jitter generator after hardware reset, and in place of a seed of 0 (R27). -/
def jitterSeed : BitVec 16 := 0xACE1#16

/-- The taps of the jitter generator (R27). -/
def jitterTaps : BitVec 16 := 0xB400#16

/-- The longest round trip that gives a sample, in ns (R34). -/
def maxRoundTrip : Int := 40000000

/-- The largest one-way sample and nominal delay, in ns (R4, R34). -/
def maxDelay : Nat := 20000000

/-- The largest jitter J, in sixteenths of a ns (R49). -/
def maxJitter : Nat := 16000000

/-- The largest queue wait W, in ns (R53). -/
def maxWait : Nat := 1000000

/-- STEP after hardware reset: integer 2, fraction 80000000h (R131). -/
def stepReset : BitVec 40 := 0x0280000000#40

/-- The lower end of STEP (R132). -/
def stepLow : BitVec 40 := 0x0266666666#40

/-- The upper end of STEP (R132). -/
def stepHigh : BitVec 40 := 0x0299999999#40

/-- The path slot a delivery trailer carries when no path matched (R117). -/
def noPathSlot : BitVec 8 := 0xFF#8

/-- FREE VALUE (log 31): the residence time R of an ECHO whose entry is not voided and whose T2 (first) is above T3 (second). R38 gives R = T3 - T2 and only an upper bound. -/
opaque residenceOf : BitVec 64 → BitVec 64 → BitVec 32

end Sys2Proof.Config
end

