-- ==== Sys2Proof/Machine/State.lean ====
section
/-! DEFINITION. The state of the HK316 as plain data, unit by unit, and its value after hardware reset. -/

namespace Sys2Proof.Machine

/-- Why the block would stop with a fault: never. No rule of the spec stops it, so there is no constructor, and nothing raises one: safe (log 24). -/
inductive Fault where
  deriving DecidableEq, Repr

/-- Why a command has no meaning. -/
inductive Refusal where
  /-- Raised by an arm of `exec` for a command not modelled yet. No arm raises it now: safe. -/
  | notModelled (mnemonic : String)
  deriving DecidableEq, Repr

/-! ### Command port (chapter 11) -/

/-- Result codes (R170). -/
inductive Result where
  | done | adjusted | noSlot | inUse | wrongState | notFound | malformed | pending | nothing
  deriving DecidableEq, Repr

/-- A response: the code of the command answered, its result, and its field bytes (R167, R168). -/
structure Response where
  code : Byte
  result : Result
  fields : List Byte
  deriving DecidableEq, Repr

/-- The engine (R164, R165, R174, R176). RESETTING covers `walking` and `initialising`. `held` is RESET_N low. `working` holds the response that the command's
completion will write (R167). -/
inductive Engine where
  | idle
  | working (response : Response)
  | walking
  | initialising
  | held
  deriving DecidableEq, Repr

/-- The command port's state. RESPONSE WAITING is `buffer.isSome` (log 25). -/
structure CommandPort where
  engine : Engine
  buffer : Option Response
  /-- The bytes shifted out on MISO in the last transaction (R163). -/
  miso : List Byte
  /-- A READ-STATUS transaction stands open, with CS_N low (R169, log 4). -/
  statusOpen : Bool
  deriving DecidableEq, Repr

/-! ### Global settings (R172) -/

/-- Share modes of the pool (R101). -/
inductive Share where
  | shared | isolated
  deriving DecidableEq, Repr

/-- The fourteen global settings, in the order SYSTEM-SET carries them (R172). -/
structure Settings where
  trialCount : Nat
  trialTolerance : Nat
  ageLimit : Nat
  marginPenalty : Nat
  jitterFactor : Nat
  windowLength : Nat
  fadeThreshold : Nat
  marginalThreshold : Nat
  gradeFloor : Nat
  settleWindows : Nat
  recoveryWindows : Nat
  switchMargin : Nat
  share : Share
  reserve : Bool
  deriving DecidableEq, Repr

/-- The hardware-reset values of R21, R58, R74, R96 and R103. -/
def Settings.reset : Settings :=
  { trialCount := 8, trialTolerance := 100000, ageLimit := 250, marginPenalty := 100000, jitterFactor := 1, windowLength := 10,
    fadeThreshold := 4, marginalThreshold := 1, gradeFloor := 2, settleWindows := 3, recoveryWindows := 20, switchMargin := 2000,
    share := .shared, reserve := true }

/-! ### Path table (chapters 1, 3, 4) -/

/-- Lifecycle states of a path slot. -/
inductive Lifecycle where
  | vacant | trial | inService | held | withdrawing
  deriving DecidableEq, Repr

/-- Media: RADIO for L0 to L3, FIBRE for L4 and L5 (R1). -/
inductive Medium where
  | radio | fibre
  deriving DecidableEq, Repr

/-- Estimate states. -/
inductive EstimateState where
  | empty | valid | stale
  deriving DecidableEq, Repr

/-- The side of an outlier (R46). -/
inductive Side where
  | above | below
  deriving DecidableEq, Repr

/-- The outlier run: count 0, 1 or 2, with a sign unless the count is 0 (R46). -/
inductive OutlierRun where
  | none
  | one (side : Side)
  | two (side : Side)
  deriving DecidableEq, Repr

/-- Weather states (R72). -/
inductive Weather where
  | clear | marginal | faded | mending
  deriving DecidableEq, Repr

/-- The weather sub-record (4.4). -/
structure WeatherRecord where
  state : Weather
  goodFrames : BitVec 16
  erroredFrames : BitVec 16
  goodResults : BitVec 16
  lostSoundings : BitVec 16
  minGrade : Fin 8
  run : BitVec 8
  deriving DecidableEq, Repr

/-- A path's tuning fields and timeout code (R4, R16). -/
structure Tuning where
  nominal : Nat
  asymmetry : Int
  shift : Nat
  spike : Nat
  interval : Nat
  timeout : Nat
  deriving DecidableEq, Repr

/-- A path's counters, apart from its win count (R20). -/
structure PathCounters where
  soundingsSent : Counter
  soundingsDeferred : Counter
  echoesGood : Counter
  soundingsLost : Counter
  outliers : Counter
  reseeds : Counter
  copiesSent : Counter
  deriving DecidableEq, Repr

/-- All counters at 0. -/
def PathCounters.zero : PathCounters := ⟨0, 0, 0, 0, 0, 0, 0⟩

/-- The record of one path slot (1.1). The medium follows the line (R1). -/
structure Path where
  life : Lifecycle
  line : Line
  tag : BitVec 12
  tuning : Tuning
  est : EstimateState
  e : Nat
  j : Nat
  age : BitVec 16
  outlierRun : OutlierRun
  goodCount : Nat
  trialFailed : Bool
  weather : WeatherRecord
  queued : Nat
  wins : Counter
  counters : PathCounters
  deriving DecidableEq, Repr

/-- CLEAR weather with every window counter and the run count at 0 (R5, R76). -/
def WeatherRecord.fresh (grade : Fin 8) : WeatherRecord := ⟨.clear, 0, 0, 0, 0, grade, 0⟩

/-- The vacant record (R2). -/
def Path.vacant : Path :=
  { life := .vacant, line := 0, tag := 0, tuning := ⟨0, 0, 3, 50000, 20, 0⟩, est := .empty, e := 0, j := 0, age := 0, outlierRun := .none,
    goodCount := 0, trialFailed := false, weather := .fresh 0, queued := 0, wins := 0, counters := .zero }

/-! ### Sounding unit (chapter 2) -/

/-- An occupied sounding context (2.1). `timeout` is in ns, absent when disabled. -/
structure Context where
  path : PathSlot
  line : Line
  tag : BitVec 12
  id : BitVec 16
  timeout : Option Nat
  t1 : Option Stamp
  deadline : Option Nat
  deriving DecidableEq, Repr

/-- The sounding unit's state. `nextDue` counts microseconds of core clock (R25). `due` marks paths fallen due and not yet issued (R29). -/
structure SoundingUnit where
  contexts : Table (Option Context) 16
  nextDue : Table (Option Nat) 32
  due : FlagSet 32
  waiting : FlagSet 32
  nextId : BitVec 16
  jitter : BitVec 16
  deriving DecidableEq, Repr

/-- The sounding unit after hardware reset (R42). -/
def SoundingUnit.reset : SoundingUnit :=
  ⟨.replicate 16 none, .replicate 32 none, .empty 32, .empty 32, 0, Config.jitterSeed⟩

/-! ### Messages, queues and lines (chapters 2, 4, 6, 9) -/

/-- Classes of a message. -/
inductive Urgency where
  | normal | urgent
  deriving DecidableEq, Repr

/-- The record of one copy that FE hands to LQM (R94). -/
structure Copy where
  line : Line
  tag : BitVec 12
  urgency : Urgency
  number : BitVec 16
  sequence : Seq
  origin : Stamp
  kind : Fin 64
  payload : List Byte
  second : Bool
  deriving DecidableEq, Repr

/-- A queued frame: the copy, its cell count, and the payload check computed at admission (R99, R146). -/
structure QueuedFrame where
  copy : Copy
  cells : Nat
  check : BitVec 32
  deriving DecidableEq, Repr

/-- An echo entry of a line's echo slot (2.7). -/
structure EchoEntry where
  tag : BitVec 12
  id : BitVec 16
  t2 : Stamp
  voided : Bool
  deriving DecidableEq, Repr

/-- A SOUND waiting in a line's control slot for its context (R30). -/
structure SoundEntry where
  context : ContextId
  tag : BitVec 12
  id : BitVec 16
  deriving DecidableEq, Repr

/-- What a SENDING transmitter sends, with its source: the control slot for the first two, else the queue of the class (R105). -/
inductive TxItem where
  | sound (tag : BitVec 12) (id : BitVec 16)
  | echo (tag : BitVec 12) (id : BitVec 16) (voided : Bool) (residence : BitVec 32)
  | traffic (queue : Urgency) (frame : QueuedFrame)
  deriving DecidableEq, Repr

/-- A frame in transmission: the cell time of its start (R107), the core clock at its start, and the bytes built then (R147). -/
structure Sending where
  item : TxItem
  cells : Nat
  cellTime : Nat
  started : Nat
  bytes : List Byte
  deriving DecidableEq, Repr

/-- Scheduling ratios (R105, 11.5). -/
inductive Ratio where
  | strict | eight | four | two
  deriving DecidableEq, Repr

/-- The counters of one line (R151 gathers them). -/
structure LineCounters where
  badHeader : Counter
  badPayload : Counter
  rxOff : Counter
  busyDrop : Counter
  flushed : Counter
  framesSent : Counter
  stray : Counter
  badEcho : Counter
  echoRefused : Counter
  echoesSent : Counter
  carrierLosses : Counter
  statusTimeouts : Counter
  statusDiscarded : Counter
  noCarrier : Counter
  unknownFeed : Counter
  deriving DecidableEq, Repr

/-- All counters at 0. -/
def LineCounters.zero : LineCounters := ⟨0, 0, 0, 0, 0, 0, 0, 0, 0, 0, 0, 0, 0, 0, 0⟩

/-- One line port. Carrier is PRESENT exactly when `grade` is not 0 (R59). `presence` belongs to radio lines and `lock` to fibre lines. The queues hold the frames
that wait: a frame in transmission stands in `tx` and still counts as its queue's (R99). -/
structure LinePort where
  grade : Fin 8
  presence : Bool
  lock : Bool
  timer : Option Nat
  txEnable : Bool
  rxEnable : Bool
  ratio : Ratio
  ratioCount : Nat
  urgent : List QueuedFrame
  normal : List QueuedFrame
  tx : Option Sending
  echoes : List EchoEntry
  sounds : List SoundEntry
  counters : LineCounters
  deriving DecidableEq, Repr

/-- A line after hardware reset, before the end of initialisation samples its pin or lock (R76, R114, log 16). -/
def LinePort.reset : LinePort :=
  { grade := 0, presence := false, lock := false, timer := none, txEnable := true, rxEnable := true, ratio := .eight, ratioCount := 0,
    urgent := [], normal := [], tx := none, echoes := [], sounds := [], counters := .zero }

/-! ### Feed table (chapters 5, 7) -/

/-- Directions of a feed. -/
inductive Direction where
  | outbound | inbound
  deriving DecidableEq, Repr

/-- Counters of an OUTBOUND feed (R96). -/
structure OutCounters where
  accepted : Counter
  rateDrop : Counter
  noPath : Counter
  distressed : Counter
  singleSends : Counter
  busyDrop0 : Counter
  busyDrop1 : Counter
  deriving DecidableEq, Repr

/-- All counters at 0. -/
def OutCounters.zero : OutCounters := ⟨0, 0, 0, 0, 0, 0, 0⟩

/-- The OUTBOUND fields (5.1). `twoCopies` is a copies count of 2. -/
structure OutFields where
  port : Port
  pathSet : FlagSet 32
  twoCopies : Bool
  pin : Option PathSlot
  rateLimit : BitVec 16
  defaultUrgency : Urgency
  ceiling : Urgency
  nextSeq : Seq
  lead : Option PathSlot
  rateCount : BitVec 16
  counters : OutCounters
  deriving DecidableEq, Repr

/-- The closed values of the OUTBOUND fields (5.1). -/
def OutFields.closed : OutFields :=
  ⟨0, .empty 32, false, none, 0, .normal, .urgent, 1, none, 0, .zero⟩

/-- Counters of an INBOUND feed (R129). -/
structure InCounters where
  delivered : Counter
  lost : Counter
  duplicates : Counter
  lateFills : Counter
  tooOld : Counter
  restarts : Counter
  deliveryDrop : Counter
  deriving DecidableEq, Repr

/-- All counters at 0. -/
def InCounters.zero : InCounters := ⟨0, 0, 0, 0, 0, 0, 0⟩

/-- Start modes (R118). -/
inductive StartMode where
  | adopt
  | expect (e : Seq)
  deriving DecidableEq, Repr

/-- The sequence window (7.1). Position p of `seen` is the flag of the number whose remainder by w is p (R115). -/
structure SeqWindow where
  live : Bool
  high : Seq
  seen : BitVec 256
  tooOldRun : Nat
  deriving DecidableEq, Repr

/-- An EMPTY window (R116). -/
def SeqWindow.empty : SeqWindow := ⟨false, 0, 0, 0⟩

/-- The INBOUND fields (5.1, 7.1). The window size is 2 to the `sizeCode` (11.5). -/
structure InFields where
  mask : FlagSet 4
  sizeCode : Nat
  start : StartMode
  window : SeqWindow
  counters : InCounters
  deriving DecidableEq, Repr

/-- The closed values of the INBOUND fields (5.1, R116). -/
def InFields.closed : InFields := ⟨.empty 4, 4, .adopt, .empty, .zero⟩

/-- The record of one feed slot (R77). -/
structure Feed where
  opened : Bool
  direction : Direction
  number : BitVec 16
  out : OutFields
  inb : InFields
  deriving DecidableEq, Repr

/-- The closed record (R77). -/
def Feed.closed : Feed := ⟨false, .outbound, 0, .closed, .closed⟩

/-! ### Local ports (chapters 7, 9) -/

/-- A delivered local frame with its trailer (R124). `path` is absent for none. -/
structure Delivery where
  number : BitVec 16
  kind : Fin 64
  payload : List Byte
  origin : Stamp
  arrival : Stamp
  path : Option PathSlot
  line : Line
  second : Bool
  deriving DecidableEq, Repr

/-- Counters of a local port (R154). -/
structure PortCounters where
  badLength : Counter
  oversize : Counter
  unknownFeed : Counter
  wrongPort : Counter
  deliveryDrop : Counter
  deliveredFrames : Counter
  deriving DecidableEq, Repr

/-- All counters at 0. -/
def PortCounters.zero : PortCounters := ⟨0, 0, 0, 0, 0, 0⟩

/-- A local port: its transmit FIFO, whose head is in sending, and its counters (R126, R154). -/
structure LocalPort where
  fifo : List Delivery
  counters : PortCounters
  deriving DecidableEq, Repr

/-! ### Time base (chapter 8) -/

/-- A pending TIME-SET, with its expiry as a value of the core clock (R139). -/
structure PendingSet where
  value : Stamp
  expiry : Nat
  deriving DecidableEq, Repr

/-- The time base's state. `step` is the 8-bit integer and the 32-bit fraction of STEP, as TIME-RATE carries them (R171). -/
structure TimeBase where
  time : Stamp
  frac : BitVec 32
  step : BitVec 40
  slew : Int
  slewTicks : Nat
  pendingSet : Option PendingSet
  ppsStamp : Stamp
  ppsCount : BitVec 8
  deriving DecidableEq, Repr

/-- The time base after hardware reset (R143). -/
def TimeBase.reset : TimeBase := ⟨0, 0, Config.stepReset, 0, 0, none, 0, 0⟩

/-! ### Notice unit (chapter 10) -/

/-- Reasons of a route notice (R91, R160), in the order of their codes (R171). -/
inductive Reason where
  | pin | lost | cost | fallback | restore | distress | pathGone | deferred
  deriving DecidableEq, Repr

/-- A route notice (10.3). -/
structure Notice where
  feed : FeedSlot
  number : BitVec 16
  old : Option PathSlot
  new : Option PathSlot
  reason : Reason
  time : Stamp
  deriving DecidableEq, Repr

/-- The notice unit's state: the flag of kind k at bit k in the order of 10.1, the member sets in that order, the mask with the route-notice enable at bit 17 (R171), the
latch and the pending set. -/
structure NoticeUnit where
  flags : FlagSet 17
  pathSets : Table (FlagSet 32) 6
  lineSets : Table (FlagSet 6) 3
  feedSets : Table (FlagSet 64) 2
  mask : FlagSet 18
  latch : Option Notice
  queued : FlagSet 64
  deriving DecidableEq, Repr

/-- The notice unit with `mask` and everything else clear (R162). -/
def NoticeUnit.clear (mask : FlagSet 18) : NoticeUnit :=
  ⟨.empty 17, .replicate 6 (.empty 32), .replicate 3 (.empty 6), .replicate 2 (.empty 64), mask, none, .empty 64⟩

/-! ### The whole part -/

/-- The running fade-window timer: ms ticks counted, and the length in force at the window's start (R70). -/
structure WindowTimer where
  elapsed : Nat
  length : Nat
  deriving DecidableEq, Repr

/-- The whole state of the part. `clock`, `nextMs` and `pending` are the model's own (INVENTORY.md, log 6). `classMap` holds the kinds whose entry is URGENT. `lineArrival` and
`portArrival` hold the stamp of a frame whose first byte has arrived and whose last byte has not (R133, R148, R152). `presentPin` and
`lockPin` are the inputs as last driven, true for PRESENT and LOCKED. -/
structure State where
  cmp : CommandPort
  settings : Settings
  paths : Table Path 32
  su : SoundingUnit
  lines : Table LinePort 6
  freeCells : Nat
  feeds : Table Feed 64
  classMap : FlagSet 64
  scanCursor : Fin 64
  ports : Table LocalPort 4
  lineArrival : Table (Option Stamp) 6
  portArrival : Table (Option Stamp) 4
  tb : TimeBase
  nu : NoticeUnit
  window : Option WindowTimer
  presentPin : FlagSet 4
  lockPin : FlagSet 2
  clock : Nat
  nextMs : Nat
  pending : List Instr
  deriving DecidableEq, Repr

/-- Every unit at its hardware-reset values, with the engine, the input pins and the queue given (R176 and each chapter's reset rule). -/
def State.hardware (engine : Engine) (presentPin : FlagSet 4) (lockPin : FlagSet 2) (pending : List Instr) : State :=
  { cmp := ⟨engine, none, [], false⟩
    settings := .reset
    paths := .replicate 32 .vacant
    su := .reset
    lines := .replicate 6 .reset
    freeCells := Config.poolCells
    feeds := .replicate 64 .closed
    classMap := .empty 64
    scanCursor := 0
    ports := .replicate 4 ⟨[], .zero⟩
    lineArrival := .replicate 6 none
    portArrival := .replicate 4 none
    tb := .reset
    nu := .clear (.empty 18)
    window := none
    presentPin := presentPin
    lockPin := lockPin
    clock := 0
    nextMs := Config.ticksPerMilli
    pending := pending }

/-- The part right after hardware reset: initialisation runs, the engine is RESETTING (R176, chapter 11 table), no modem is fitted and no fibre line has lock (log 16). -/
def State.reset : State := .hardware .initialising (.empty 4) (.empty 2) []

end Sys2Proof.Machine
end

