-- ==== Sys2Proof/Machine/Ops.lean ====
section
/-! DEFINITION. Named operations over the state: saturating counts, clamps, byte order, the frame checks, and reads and updates of one record. -/

namespace Sys2Proof.Machine

/-! ### Counts and clamps -/

/-- `n` more on a count that saturates at its maximum (00_scope, Conventions). -/
def satAdd {w : Nat} (c : BitVec w) (n : Nat) : BitVec w := BitVec.ofNat w (min (c.toNat + n) (2 ^ w - 1))

/-- One more on a count that saturates at its maximum. -/
def bump {w : Nat} (c : BitVec w) : BitVec w := satAdd c 1

/-- `v` brought to the nearer end of `lo` to `hi` (R170). -/
def clampNat (lo hi v : Nat) : Nat := max lo (min hi v)

/-- `v` brought to the nearer end of `lo` to `hi` (R170). -/
def clampInt (lo hi v : Int) : Int := max lo (min hi v)

/-! ### Byte order (R144, R171) -/

/-- `v` in `n` bytes, most significant first. -/
def beBytes : Nat → Nat → List Byte
  | 0, _ => []
  | n + 1, v => beBytes n (v / 256) ++ [BitVec.ofNat 8 v]

/-- The number that bytes spell, most significant first. -/
def beValue (bytes : List Byte) : Nat := bytes.foldl (fun a b => a * 256 + b.toNat) 0

/-- The number in the `n` bytes from offset `i`, most significant first. -/
def field (bytes : List Byte) (i n : Nat) : Nat := beValue ((bytes.drop i).take n)

/-- The 32-bit two's complement value of a 4-byte field (R171). -/
def signed32 (v : Nat) : Int := (BitVec.ofNat 32 v).toInt

/-- A signed value in 4 bytes of two's complement (R171). -/
def signedBytes (v : Int) : List Byte := beBytes 4 (BitVec.ofInt 32 v).toNat

/-! ### Frame checks (R146) -/

/-- One bit of a cyclic check with generator `poly`, the register's top bit leaving. -/
def crcBit {w : Nat} (poly : BitVec w) (reg : BitVec w) (bit : Bool) : BitVec w :=
  if reg.msb != bit then (reg <<< 1) ^^^ poly else reg <<< 1

/-- One byte of a cyclic check, most significant bit first. -/
def crcByte {w : Nat} (poly : BitVec w) (reg : BitVec w) (b : Byte) : BitVec w :=
  [7, 6, 5, 4, 3, 2, 1, 0].foldl (fun r i => crcBit poly r (b.getLsbD i)) reg

/-- The 16-bit header check: generator x^16 + x^12 + x^5 + 1, preset FFFFh, no inversion (R146). -/
def headerCheck (bytes : List Byte) : BitVec 16 := bytes.foldl (crcByte 0x1021#16) 0xFFFF#16

/-- The 32-bit payload check: generator 04C11DB7h, preset FFFFFFFFh, no inversion (R146). -/
def payloadCheck (bytes : List Byte) : BitVec 32 := bytes.foldl (crcByte 0x04C11DB7#32) 0xFFFFFFFF#32

/-! ### Lines and paths -/

/-- The line port of a radio line. -/
def radioLine (l : RadioLine) : Line := ⟨l.val, by omega⟩

/-- The line port of a fibre line. -/
def fibreLine (l : FibreLine) : Line := ⟨l.val + 4, by omega⟩

/-- The radio line that a line port is, if it is one. -/
def radioOf (l : Line) : Option RadioLine := if h : l.val < 4 then some ⟨l.val, h⟩ else none

/-- The medium of a line: RADIO for L0 to L3, FIBRE for L4 and L5 (R1). -/
def mediumOf (l : Line) : Medium := if l.val < 4 then .radio else .fibre

/-- Carrier is PRESENT exactly when the grade is 1 to 7 (R59). -/
def LinePort.carrier (p : LinePort) : Bool := p.grade ≠ 0

/-- A line that can carry frames: carrier PRESENT and transmit enabled (R26, R88, R104). -/
def LinePort.usable (p : LinePort) : Bool := p.carrier && p.txEnable

/-- The time one cell takes at a grade, in ns; grade 0 has none (R52). -/
def cellTime (grade : Fin 8) : Nat :=
  match grade.val with
  | 7 => 512
  | 6 => 640
  | 5 => 853
  | 4 => 1024
  | 3 => 1280
  | 2 => 1707
  | 1 => 2560
  | _ => 0

/-- A path that SU sounds and WM cares for: TRIAL, IN SERVICE or HELD (R25, R68). -/
def Path.measured (p : Path) : Bool := p.life = .trial || p.life = .inService || p.life = .held

/-- Whether a path outside VACANT holds this line and route tag (R1). -/
def Path.holds (p : Path) (line : Line) (tag : BitVec 12) : Bool := p.life ≠ .vacant && p.line = line && p.tag = tag

/-- The path outside VACANT that holds a line and route tag, if there is one (R1, R18). -/
def State.findPath (s : State) (line : Line) (tag : BitVec 12) : Option PathSlot := s.paths.lowest fun _ p => p.holds line tag

/-- The OPEN feed of a direction and number, if there is one (R77). -/
def State.findFeed (s : State) (direction : Direction) (number : BitVec 16) : Option FeedSlot :=
  s.feeds.lowest fun _ f => f.opened && f.direction = direction && f.number = number

/-! ### Engine and clock -/

/-- RESETTING, or RESET_N low: no frame, command or sounding reaches a unit (R174, R176). -/
def Engine.resetting : Engine → Bool
  | .idle => false
  | .working _ => false
  | .walking => true
  | .initialising => true
  | .held => true

/-- Initialisation, or RESET_N low: nothing runs at all (R176). -/
def Engine.off : Engine → Bool
  | .idle => false
  | .working _ => false
  | .walking => false
  | .initialising => true
  | .held => true

/-- The part is RESETTING or held in reset. -/
def State.resetting (s : State) : Bool := s.cmp.engine.resetting

/-- The part is in hardware reset or initialisation. -/
def State.off (s : State) : Bool := s.cmp.engine.off

/-- The core clock in whole microseconds, on which the schedule counts (R25). -/
def State.micros (s : State) : Nat := s.clock / Config.ticksPerMicro

/-! ### Frames in arrival (R133, R148, R152) -/

/-- The arrival stamp of the frame whose last byte arrives on a line: the one taken at its first byte, or TIME for a frame that arrives whole (R133, log 9). -/
def State.lineStamp (s : State) (line : Line) : Stamp := (s.lineArrival.get line).getD s.tb.time

/-- No frame is arriving on a line. -/
def State.lineQuiet (s : State) (line : Line) : State := { s with lineArrival := s.lineArrival.set line none }

/-- The origin stamp of the local frame whose last byte arrives on a port: the one taken at its first byte, or TIME for a frame that arrives whole (R84, R133, log 9). -/
def State.portStamp (s : State) (p : Port) : Stamp := (s.portArrival.get p).getD s.tb.time

/-- No frame is arriving on a local port. -/
def State.portQuiet (s : State) (p : Port) : State := { s with portArrival := s.portArrival.set p none }

/-! ### Updates of one record or one unit -/

/-- One path record changed. -/
def State.onPath (s : State) (i : PathSlot) (f : Path → Path) : State := { s with paths := s.paths.modify i f }

/-- One line port changed. -/
def State.onLine (s : State) (l : Line) (f : LinePort → LinePort) : State := { s with lines := s.lines.modify l f }

/-- One feed record changed. -/
def State.onFeed (s : State) (i : FeedSlot) (f : Feed → Feed) : State := { s with feeds := s.feeds.modify i f }

/-- One local port changed. -/
def State.onPort (s : State) (p : Port) (f : LocalPort → LocalPort) : State := { s with ports := s.ports.modify p f }

/-- The command port changed. -/
def State.onCmp (s : State) (f : CommandPort → CommandPort) : State := { s with cmp := f s.cmp }

/-- The sounding unit changed. -/
def State.onSu (s : State) (f : SoundingUnit → SoundingUnit) : State := { s with su := f s.su }

/-- The time base changed. -/
def State.onTb (s : State) (f : TimeBase → TimeBase) : State := { s with tb := f s.tb }

/-- The notice unit changed. -/
def State.onNu (s : State) (f : NoticeUnit → NoticeUnit) : State := { s with nu := f s.nu }

/-- One line's counters changed. -/
def State.countLine (s : State) (l : Line) (f : LineCounters → LineCounters) : State :=
  s.onLine l fun p => { p with counters := f p.counters }

/-- One path's counters changed. -/
def State.countPath (s : State) (i : PathSlot) (f : PathCounters → PathCounters) : State :=
  s.onPath i fun p => { p with counters := f p.counters }

/-- One local port's counters changed. -/
def State.countPort (s : State) (p : Port) (f : PortCounters → PortCounters) : State :=
  s.onPort p fun q => { q with counters := f q.counters }

/-- The OUTBOUND fields of a feed changed. -/
def State.onOut (s : State) (i : FeedSlot) (f : OutFields → OutFields) : State := s.onFeed i fun x => { x with out := f x.out }

/-- The INBOUND fields of a feed changed. -/
def State.onInb (s : State) (i : FeedSlot) (f : InFields → InFields) : State := s.onFeed i fun x => { x with inb := f x.inb }

/-- An OUTBOUND feed's counters changed. -/
def State.countOut (s : State) (i : FeedSlot) (f : OutCounters → OutCounters) : State :=
  s.onOut i fun o => { o with counters := f o.counters }

/-- An INBOUND feed's counters changed. -/
def State.countInb (s : State) (i : FeedSlot) (f : InCounters → InCounters) : State :=
  s.onInb i fun o => { o with counters := f o.counters }

end Sys2Proof.Machine
end

