-- ==== Sys2Proof/Machine/Flags.lean ====
section
/-! DEFINITION. Events, route notices, INT_N and the status byte (chapter 10, R164). -/

namespace Sys2Proof.Machine

/-! ### Event kinds, in the order of the table in 10.1 -/

/-- Kinds whose member sets hold paths. -/
inductive PathEvent where
  | qualified | trialFailed | faded | cleared | stale | withdrawn
  deriving DecidableEq, Repr

/-- Kinds whose member sets hold lines. -/
inductive LineEvent where
  | down | up | modemChange
  deriving DecidableEq, Repr

/-- Kinds whose member sets hold feeds. -/
inductive FeedEvent where
  | gap | restart
  deriving DecidableEq, Repr

/-- Kinds without a member set. -/
inductive PlainEvent where
  | timeStepped | timeSetDone | timeSetExpired | slewDone | pps | softResetDone
  deriving DecidableEq, Repr

/-- Its member set's place among those of paths; its kind number is the same (R171). -/
def PathEvent.index : PathEvent → Fin 6
  | .qualified => 0
  | .trialFailed => 1
  | .faded => 2
  | .cleared => 3
  | .stale => 4
  | .withdrawn => 5

/-- Its member set's place among those of lines; its kind number is 6 more. -/
def LineEvent.index : LineEvent → Fin 3
  | .down => 0
  | .up => 1
  | .modemChange => 2

/-- Its member set's place among those of feeds; its kind number is 9 more. -/
def FeedEvent.index : FeedEvent → Fin 2
  | .gap => 0
  | .restart => 1

/-- Its kind number (R171). -/
def PlainEvent.kind : PlainEvent → Nat
  | .timeStepped => 11
  | .timeSetDone => 12
  | .timeSetExpired => 13
  | .slewDone => 14
  | .pps => 15
  | .softResetDone => 16

/-- An event of a path kind raised for every member of `who`: nothing when there is none (R155). -/
def NoticeUnit.raisePaths (n : NoticeUnit) (k : PathEvent) (who : FlagSet 32) : NoticeUnit :=
  if who = 0 then n
  else { n with flags := n.flags.insert k.index.val, pathSets := n.pathSets.modify k.index (· ||| who) }

/-- An event of a path kind raised for one path (R155). -/
def NoticeUnit.raisePath (n : NoticeUnit) (k : PathEvent) (i : PathSlot) : NoticeUnit :=
  { n with flags := n.flags.insert k.index.val, pathSets := n.pathSets.modify k.index (·.insert i.val) }

/-- An event of a line kind raised for one line (R155). -/
def NoticeUnit.raiseLine (n : NoticeUnit) (k : LineEvent) (l : Line) : NoticeUnit :=
  { n with flags := n.flags.insert (k.index.val + 6), lineSets := n.lineSets.modify k.index (·.insert l.val) }

/-- An event of a feed kind raised for one feed slot (R155). -/
def NoticeUnit.raiseFeed (n : NoticeUnit) (k : FeedEvent) (i : FeedSlot) : NoticeUnit :=
  { n with flags := n.flags.insert (k.index.val + 9), feedSets := n.feedSets.modify k.index (·.insert i.val) }

/-- An event of a kind without a member set raised (R155). -/
def NoticeUnit.raisePlain (n : NoticeUnit) (k : PlainEvent) : NoticeUnit := { n with flags := n.flags.insert k.kind }

/-- `raisePaths` on the whole state. -/
def State.raisePaths (s : State) (k : PathEvent) (who : FlagSet 32) : State := s.onNu (·.raisePaths k who)

/-- `raisePath` on the whole state. -/
def State.raisePath (s : State) (k : PathEvent) (i : PathSlot) : State := s.onNu (·.raisePath k i)

/-- `raiseLine` on the whole state. -/
def State.raiseLine (s : State) (k : LineEvent) (l : Line) : State := s.onNu (·.raiseLine k l)

/-- `raiseFeed` on the whole state. -/
def State.raiseFeed (s : State) (k : FeedEvent) (i : FeedSlot) : State := s.onNu (·.raiseFeed k i)

/-- `raisePlain` on the whole state. -/
def State.raisePlain (s : State) (k : PlainEvent) : State := s.onNu (·.raisePlain k)

/-- The kinds whose flags and sets one EVENT-CLEAR clears (R157). -/
def NoticeUnit.clearKinds (n : NoticeUnit) (kinds : FlagSet 17) : NoticeUnit :=
  { n with
    flags := n.flags &&& ~~~ kinds
    pathSets := n.pathSets.mapIdx fun i m => if kinds.mem i.val then 0 else m
    lineSets := n.lineSets.mapIdx fun i m => if kinds.mem (i.val + 6) then 0 else m
    feedSets := n.feedSets.mapIdx fun i m => if kinds.mem (i.val + 9) then 0 else m }

/-! ### Route notices -/

/-- NU takes a notice (R159). -/
def NoticeUnit.take (n : NoticeUnit) (x : Notice) : NoticeUnit :=
  match n.latch with
  | none => { n with latch := some x }
  | some held =>
    if held.feed = x.feed then
      if held.number = x.number then { n with latch := some { held with new := x.new, reason := x.reason, time := x.time } }
      else { n with latch := some x }
    else { n with queued := n.queued.insert x.feed.val }

/-- The lowest member of the pending set (R160). -/
def NoticeUnit.lowestQueued (n : NoticeUnit) : Option FeedSlot := (List.finRange 64).find? fun i => n.queued.mem i.val

/-- NOTICE-CLEAR's effect: the latch is emptied, and refilled from the pending set if it was FULL and the set is not empty (R160). -/
def State.clearNotice (s : State) : State :=
  match s.nu.latch with
  | none => s
  | some _ =>
    match s.nu.lowestQueued with
    | none => s.onNu fun n => { n with latch := none }
    | some f =>
      s.onNu fun n =>
        { n with
          queued := n.queued.erase f.val
          latch := some ⟨f, (s.feeds.get f).number, none, (s.feeds.get f).out.lead, .deferred, s.tb.time⟩ }

/-! ### INT_N and the status byte -/

/-- The INT_N condition: an enabled kind's flag is set, or the route-notice enable is on and the latch is FULL (R158). -/
def NoticeUnit.interrupt (n : NoticeUnit) : Bool :=
  ((n.mask.setWidth 17) &&& n.flags) ≠ 0 || (n.mask.mem 17 && n.latch.isSome)

/-- INT_N asserted, driven low; released while RESET_N is low (R158). -/
def State.intAsserted (s : State) : Bool := s.cmp.engine ≠ .held && s.nu.interrupt

/-- The engine state as the status byte's bits 5 and 4 show it (R164). -/
def Engine.code : Engine → Nat
  | .idle => 0
  | .working _ => 1
  | .walking => 2
  | .initialising => 2
  | .held => 2

/-- The status byte; 00h while RESET_N is low (R164). -/
def State.statusByte (s : State) : Byte :=
  if s.cmp.engine = .held then 0
  else BitVec.ofNat 8 (128 + 16 * s.cmp.engine.code + (if s.cmp.buffer.isSome then 8 else 0) + (if s.intAsserted then 4 else 0))

end Sys2Proof.Machine
end

