-- ==== Sys2Proof/Machine/Frames.lean ====
section
/-! DEFINITION. Layouts of the line frames and local frames (chapter 9). -/

namespace Sys2Proof.Machine

/-! ### Frames the part sends (R144, R145, R147, R153) -/

/-- A header with its header check behind it (R146). -/
def withHeaderCheck (header : List Byte) : List Byte := header ++ beBytes 2 (headerCheck header).toNat

/-- The code of a class in a frame header (R144). -/
def Urgency.bit : Urgency → Nat
  | .normal => 0
  | .urgent => 1

/-- A FEED frame: the 32-byte header and the payload (R144). -/
def feedFrameBytes (f : QueuedFrame) : List Byte :=
  withHeaderCheck
    ([0x01#8]
      ++ beBytes 2 (f.copy.tag.toNat * 16 + (if f.copy.second then 8 else 0) + f.copy.urgency.bit * 4)
      ++ beBytes 1 f.copy.kind.val
      ++ beBytes 2 f.copy.number.toNat
      ++ beBytes 4 f.copy.sequence.toNat
      ++ beBytes 8 f.copy.origin.toNat
      ++ beBytes 2 f.copy.payload.length
      ++ beBytes 4 f.check.toNat
      ++ List.replicate 6 0)
    ++ f.copy.payload

/-- A SOUND frame (R145). -/
def soundFrameBytes (tag : BitVec 12) (id : BitVec 16) : List Byte :=
  withHeaderCheck ([0x02#8] ++ beBytes 2 (tag.toNat * 16) ++ beBytes 2 id.toNat ++ List.replicate 9 0)

/-- An ECHO frame (R145). -/
def echoFrameBytes (tag : BitVec 12) (id : BitVec 16) (voided : Bool) (residence : BitVec 32) : List Byte :=
  withHeaderCheck
    ([0x03#8] ++ beBytes 2 (tag.toNat * 16 + (if voided then 8 else 0)) ++ beBytes 2 id.toNat ++ beBytes 4 residence.toNat
      ++ List.replicate 5 0)

/-- The frame a line port builds at a start (R147). -/
def TxItem.bytes : TxItem → List Byte
  | .sound tag id => soundFrameBytes tag id
  | .echo tag id voided residence => echoFrameBytes tag id voided residence
  | .traffic _ f => feedFrameBytes f

/-- A delivered local frame with its trailer (R153). -/
def Delivery.bytes (d : Delivery) : List Byte :=
  beBytes 2 d.number.toNat ++ beBytes 1 d.kind.val ++ beBytes 2 d.payload.length ++ d.payload
    ++ beBytes 8 d.origin.toNat ++ beBytes 8 d.arrival.toNat
    ++ [match d.path with
        | none => Config.noPathSlot
        | some i => BitVec.ofNat 8 i.val]
    ++ beBytes 1 d.line.val ++ [if d.second then 1 else 0]

/-! ### Headers the part receives -/

/-- The fields of a FEED header (R144). Fill bytes and spare bits are ignored. -/
structure FeedHeader where
  tag : BitVec 12
  second : Bool
  kind : Fin 64
  number : BitVec 16
  sequence : Seq
  origin : Stamp
  length : Nat
  check : BitVec 32
  deriving DecidableEq, Repr

/-- The FEED header of a frame (R144). -/
def feedHeader (bytes : List Byte) : FeedHeader :=
  { tag := BitVec.ofNat 12 (field bytes 1 2 / 16)
    second := field bytes 1 2 / 8 % 2 = 1
    kind := Fin.ofNat 64 (field bytes 3 1)
    number := BitVec.ofNat 16 (field bytes 4 2)
    sequence := BitVec.ofNat 32 (field bytes 6 4)
    origin := BitVec.ofNat 64 (field bytes 10 8)
    length := field bytes 18 2
    check := BitVec.ofNat 32 (field bytes 20 4) }

/-- The route tag of a SOUND or ECHO frame (R145). -/
def controlTag (bytes : List Byte) : BitVec 12 := BitVec.ofNat 12 (field bytes 1 2 / 16)

/-- The sounding id of a SOUND or ECHO frame (R145). -/
def controlId (bytes : List Byte) : BitVec 16 := BitVec.ofNat 16 (field bytes 3 2)

/-- The voided flag of an ECHO frame (R145). -/
def echoVoided (bytes : List Byte) : Bool := field bytes 1 2 / 8 % 2 = 1

/-- The residence time of an ECHO frame (R145). -/
def echoResidence (bytes : List Byte) : Nat := field bytes 5 4

/-- The carrier flag of a MODEM STATUS frame (R145). -/
def statusCarrier (bytes : List Byte) : Bool := field bytes 1 1 / 128 % 2 = 1

/-- The grade of a MODEM STATUS frame (R145). -/
def statusGrade (bytes : List Byte) : Fin 8 := Fin.ofNat 8 (field bytes 1 1)

/-- The kinds of line frame (R144). -/
inductive FrameKind where
  | feed | sound | echo | modemStatus
  deriving DecidableEq, Repr

/-- The kind a kind byte names (R144). -/
def frameKind (k : Byte) : Option FrameKind :=
  if k = 0x01#8 then some .feed
  else if k = 0x02#8 then some .sound
  else if k = 0x03#8 then some .echo
  else if k = 0x04#8 then some .modemStatus
  else none

/-- The header length of a kind (R148). -/
def FrameKind.headerLength : FrameKind → Nat
  | .feed => 32
  | .sound => 16
  | .echo => 16
  | .modemStatus => 8

/-- Whether the header check received agrees with the header (R146, R148). -/
def headerCheckGood (k : FrameKind) (bytes : List Byte) : Bool :=
  (headerCheck (bytes.take (k.headerLength - 2))).toNat = field bytes (k.headerLength - 2) 2

/-- Whether a header is well formed: a FEED payload length of 1 to 1,024, no byte beyond the header of another kind (R148). -/
def headerFormed (k : FrameKind) (bytes : List Byte) : Bool :=
  match k with
  | .feed => 1 ≤ field bytes 18 2 && field bytes 18 2 ≤ Config.maxPayload
  | .sound => bytes.length = 16
  | .echo => bytes.length = 16
  | .modemStatus => bytes.length = 8

/-- Steps 3 to 5 of R148: the kind of a frame with a good, well-formed header; none where BAD HEADER is counted. -/
def goodHeader (bytes : List Byte) : Option FrameKind :=
  match bytes with
  | [] => none
  | b :: _ =>
    match frameKind b with
    | none => none
    | some k => if k.headerLength ≤ bytes.length && headerCheckGood k bytes && headerFormed k bytes then some k else none

/-- Whether a FEED frame passes its payload check (R149). -/
def payloadGood (bytes : List Byte) : Bool :=
  bytes.length = 32 + (feedHeader bytes).length && payloadCheck (bytes.drop 32) = (feedHeader bytes).check

end Sys2Proof.Machine
end

