-- ==== Sys2Proof/Machine/Transmit.lean ====
section
/-! DEFINITION. The cell pool, the line queues, admission, the transmitter and its frame boundaries, completion and flush (chapter 6). -/

namespace Sys2Proof.Machine

/-! ### Cells -/

/-- Cells of a FEED frame with `p` payload bytes: ceil((32 + p) / 64) (R98). -/
def frameCells (p : Nat) : Nat := (32 + p + 63) / 64

/-- Cells of waiting frames. -/
def queueCells (q : List QueuedFrame) : Nat := (q.map (·.cells)).sum

/-- The frames of a class that wait on a line. -/
def LinePort.waiting (p : LinePort) : Urgency → List QueuedFrame
  | .normal => p.normal
  | .urgent => p.urgent

/-- The frame in transmission, when it comes from the queue of class `c`. -/
def LinePort.sendingFrom (p : LinePort) (c : Urgency) : List QueuedFrame :=
  match p.tx with
  | some ⟨.traffic q f, _, _, _, _⟩ => if q = c then [f] else []
  | _ => []

/-- All frames of a class's queue: the frame in transmission still belongs to its queue (R99). -/
def LinePort.queue (p : LinePort) (c : Urgency) : List QueuedFrame := p.sendingFrom c ++ p.waiting c

/-- Cells held by a class's queue, with the frame in transmission (R99). -/
def LinePort.cells (p : LinePort) (c : Urgency) : Nat := queueCells (p.queue c)

/-- The line total (R100). -/
def LinePort.total (p : LinePort) : Nat := p.cells .urgent + p.cells .normal

/-- The reserve held (R100). -/
def State.reserveHeld (s : State) : Nat :=
  if s.settings.reserve then ((List.finRange 6).map fun l => Config.reservePerLine - (s.lines.get l).cells .urgent).sum else 0

/-! ### The frame boundary (R104 to R107) -/

/-- The URGENT frames a ratio lets go in a row; STRICT has no such count (R105). -/
def Ratio.limit : Ratio → Option Nat
  | .strict => none
  | .eight => some 8
  | .four => some 4
  | .two => some 2

/-- The class of the traffic frame that a boundary starts, if one waits (R105, steps 2 to 4). -/
def LinePort.choose (p : LinePort) : Option Urgency :=
  match p.urgent, p.normal with
  | [], [] => none
  | [], _ :: _ => some .normal
  | _ :: _, [] => some .urgent
  | _ :: _, _ :: _ =>
    match p.ratio.limit with
    | none => some .urgent
    | some r => if r ≤ p.ratioCount then some .normal else some .urgent

/-- The ratio counter after a traffic frame of class `c` starts (R106); `p` is the line before the start. -/
def LinePort.ratioAfter (p : LinePort) (c : Urgency) : Nat :=
  match p.ratio.limit, c with
  | none, _ => 0
  | some _, .normal => 0
  | some _, .urgent => if p.normal = [] then 0 else p.ratioCount + 1

/-- A frame in transmission from now on, at the cell time of the line's grade (R107), with the bytes built at this moment (R147). -/
def LinePort.sending (p : LinePort) (clock : Nat) (item : TxItem) (cells : Nat) : Sending :=
  ⟨item, cells, cellTime p.grade, clock, item.bytes⟩

/-- The residence time an ECHO carries: T3 - T2 up to 32 bits, and 0 for a voided entry (R38). An entry that is not voided can hold a T2 above T3: a SOUND stamped at its first byte,
then a backward jump of TIME, then its last byte (R39, R133, R148). The spec gives no R for it, and the model leaves it free (log 31). -/
def EchoEntry.residence (e : EchoEntry) (t3 : Stamp) : BitVec 32 :=
  if e.voided then 0
  else if t3 < e.t2 then Config.residenceOf e.t2 t3
  else BitVec.ofNat 32 (min (t3.toNat - e.t2.toNat) (2 ^ 32 - 1))

/-- The oldest echo entry's ECHO starts (R38). -/
def State.startEcho (s : State) (l : Line) (e : EchoEntry) (rest : List EchoEntry) : State :=
  s.onLine l fun p =>
    { p with
      echoes := rest
      tx := some (p.sending s.clock (.echo e.tag e.id e.voided (e.residence s.tb.time)) 1)
      counters := { p.counters with echoesSent := bump p.counters.echoesSent } }

/-- A context at the departure of its SOUND: T1 is stamped and the deadline set (R30). -/
def Context.depart (c : Context) (time : Stamp) : Context :=
  { c with t1 := some time, deadline := c.timeout.map (time.toNat + ·) }

/-- The oldest SOUND starts: T1 and the deadline are set in its context, and SOUNDINGS SENT is counted on its path (R30). -/
def State.startSound (s : State) (l : Line) (e : SoundEntry) (rest : List SoundEntry) : State :=
  let s := s.onLine l fun p => { p with sounds := rest, tx := some (p.sending s.clock (.sound e.tag e.id) 1) }
  match s.su.contexts.get e.context with
  | none => s
  | some c =>
    (s.onSu fun u => { u with contexts := u.contexts.set e.context (some (c.depart s.tb.time)) }).countPath c.path fun k =>
      { k with soundingsSent := bump k.soundingsSent }

/-- The head of a class's queue starts (R99, R105, R106). -/
def LinePort.startTraffic (p : LinePort) (clock : Nat) (c : Urgency) : LinePort :=
  match c, p.urgent, p.normal with
  | .urgent, f :: rest, _ =>
    { p with urgent := rest, ratioCount := p.ratioAfter .urgent, tx := some (p.sending clock (.traffic .urgent f) f.cells) }
  | .normal, _, f :: rest =>
    { p with normal := rest, ratioCount := p.ratioAfter .normal, tx := some (p.sending clock (.traffic .normal f) f.cells) }
  | _, _, _ => p

/-- The choice of R105 at a frame boundary of a line that can send. -/
def State.startNext (s : State) (l : Line) : State :=
  match (s.lines.get l).echoes, (s.lines.get l).sounds, (s.lines.get l).choose with
  | e :: rest, _, _ => s.startEcho l e rest
  | [], d :: rest, _ => s.startSound l d rest
  | [], [], some c => s.onLine l fun p => p.startTraffic s.clock c
  | [], [], none => s

/-- A line that is IDLE reaches a frame boundary (R104). The ratio counter is set to 0 when NORMAL has no waiting frame (R106, log 23). A SENDING line reaches none, and no
frame starts during RESETTING (R174). -/
def State.boundary (s : State) (l : Line) : State :=
  if (s.lines.get l).tx.isSome || s.resetting then s
  else
    let s := s.onLine l fun p => if p.normal = [] then { p with ratioCount := 0 } else p
    if (s.lines.get l).usable then s.startNext l else s

/-! ### Admission (R100 to R102) -/

/-- The test of R101 for a copy of class `c` that needs `n` cells on line `l`. -/
def State.admits (s : State) (l : Line) (c : Urgency) (n : Nat) : Bool :=
  (match c with
    | .urgent => decide (n ≤ s.freeCells)
    | .normal => decide (n + s.reserveHeld ≤ s.freeCells))
  && (s.settings.share = .shared || decide ((s.lines.get l).total + n ≤ Config.isolatedCap))

/-- A frame at the tail of its class's queue (R101). -/
def LinePort.append (p : LinePort) (f : QueuedFrame) : LinePort :=
  match f.copy.urgency with
  | .urgent => { p with urgent := p.urgent ++ [f] }
  | .normal => { p with normal := p.normal ++ [f] }

/-- The queued frame of a copy, with its cells and its payload check (R98, R146). -/
def Copy.queued (c : Copy) : QueuedFrame := ⟨c, frameCells c.payload.length, payloadCheck c.payload⟩

/-- An admitted copy: queued, its cells taken, the path's queued-frame count raised, and a boundary if the transmitter is IDLE (R101). -/
def State.enqueue (s : State) (c : Copy) (path : PathSlot) : State :=
  let s := s.onLine c.line (·.append c.queued)
  let s := { s with freeCells := s.freeCells - c.queued.cells }
  let s := s.onPath path fun p => { p with queued := p.queued + 1 }
  s.boundary c.line

/-- LQM's answer to the offer of a copy: the path whose count it raised when admitted, none when dropped with BUSY DROP (R101, R102). -/
def State.offer (s : State) (c : Copy) : State × Option PathSlot :=
  match s.findPath c.line c.tag with
  | none => (s.countLine c.line fun k => { k with busyDrop := bump k.busyDrop }, none)
  | some path =>
    if s.admits c.line c.urgency c.queued.cells then (s.enqueue c path, some path)
    else (s.countLine c.line fun k => { k with busyDrop := bump k.busyDrop }, none)

/-! ### Completion and flush (R108, R110) -/

/-- The path slot returns to the vacant record, and PATH WITHDRAWN is raised (R15). -/
def State.withdraw (s : State) (i : PathSlot) : State := (s.onPath i fun _ => .vacant).raisePath .withdrawn i

/-- The path's queued-frame count falls by 1; a WITHDRAWING path whose count is then 0 becomes VACANT (R15, R108). -/
def State.dequeue (s : State) (i : PathSlot) : State :=
  let s := s.onPath i fun p => { p with queued := p.queued - 1 }
  if (s.paths.get i).life = .withdrawing && (s.paths.get i).queued = 0 then s.withdraw i else s

/-- Whether a frame's transmission has lasted its cells times its cell time; a core tick is 2.5 ns (R107, log 10). -/
def Sending.ended (x : Sending) (clock : Nat) : Bool := 2 * (x.cells * x.cellTime) ≤ 5 * (clock - x.started)

/-- The effects of a completion before the boundary that follows it (R108). -/
def State.complete (s : State) (l : Line) (x : Sending) : State :=
  let s := s.onLine l fun p => { p with tx := none }
  match x.item with
  | .traffic _ f =>
    let s := { s with freeCells := s.freeCells + f.cells }
    let s := s.countLine l fun k => { k with framesSent := bump k.framesSent }
    match s.findPath l f.copy.tag with
    | none => s
    | some i => s.dequeue i
  | .sound _ _ => s
  | .echo _ _ _ _ => s

/-- Every frame of both queues of a line, with a traffic frame in transmission. -/
def LinePort.frames (p : LinePort) : List QueuedFrame := p.queue .urgent ++ p.queue .normal

/-- The frames of a path on a line that a flush removes (R110). -/
def LinePort.framesOf (p : LinePort) (tag : BitVec 12) : Nat := (p.frames.filter (·.copy.tag = tag)).length

/-- A line after its flush: queues empty, transmitter IDLE, ratio counter 0, FLUSHED counted for each frame removed (R110). -/
def LinePort.flush (p : LinePort) : LinePort :=
  { p with
    urgent := []
    normal := []
    tx := none
    ratioCount := 0
    counters := { p.counters with flushed := satAdd p.counters.flushed p.frames.length } }

/-- A path after a flush of line `l`: its count falls by its frames removed (R110). -/
def Path.flushed (l : Line) (port : LinePort) (p : Path) : Path :=
  if p.holds l p.tag then { p with queued := p.queued - port.framesOf p.tag } else p

/-- The WITHDRAWING paths that a flush of line `l` leaves with a queued-frame count of 0 (R110). -/
def State.drained (s : State) (l : Line) : FlagSet 32 :=
  .ofPred fun i => (s.paths.get i).life = .withdrawing && (s.paths.get i).line = l && (s.paths.get i).queued = 0

/-- The flush of line `l` at a carrier loss (R110). -/
def State.flush (s : State) (l : Line) : State :=
  let port := s.lines.get l
  let s := { s with freeCells := s.freeCells + queueCells port.frames, paths := s.paths.map (Path.flushed l port) }
  let s := s.onLine l LinePort.flush
  let gone := s.drained l
  ({ s with paths := s.paths.mapIdx fun i p => if gone.mem i.val then .vacant else p }).raisePaths .withdrawn gone

end Sys2Proof.Machine
end

