-- ==== Sys2Proof/Machine/Estimate.lean ====
section
/-! DEFINITION. The delay estimate, trial judgement, ageing, and path cost (chapters 1 and 3). -/

namespace Sys2Proof.Machine

/-! ### The estimate (R43 to R49) -/

/-- Seeding: the sample X, in sixteenths of a ns, is the whole estimate (R44). -/
def Path.seed (p : Path) (x : Nat) : Path := { p with e := x, j := 0, outlierRun := .none, est := .valid, age := 0 }

/-- E moved toward X by a fraction 1/2^k, rounding toward zero (R48). -/
def nextE (k e x : Nat) : Nat := ((e : Int) + ((x : Int) - e).tdiv (2 ^ k)).toNat

/-- The distance of a sample from E (R45, R49). -/
def distance (e x : Nat) : Nat := ((x : Int) - e).natAbs

/-- J moved a sixteenth of the way toward D, rounding toward zero, and brought into its range (R49). -/
def nextJ (j d : Nat) : Nat := (clampInt 0 Config.maxJitter ((j : Int) + ((d : Int) - j).tdiv 16)).toNat

/-- The normal update (R48, R49). -/
def Path.update (p : Path) (x : Nat) : Path :=
  { p with e := nextE p.tuning.shift p.e x, j := nextJ p.j (distance p.e x), age := 0, outlierRun := .none }

/-- The side of a sample away from E (R46). -/
def sideOf (e x : Nat) : Side := if e < x then .above else .below

/-- The outlier run after an outlier on `side`; none when the run reaches 3 (R46). -/
def OutlierRun.extend (r : OutlierRun) (side : Side) : Option OutlierRun :=
  match r with
  | .none => some (.one side)
  | .one t => some (if t = side then .two side else .one side)
  | .two t => if t = side then Option.none else some (.one side)

/-- An outlier: counted and set aside, or a reseed when it is the third of its side (R45 to R47). -/
def Path.outlier (p : Path) (x : Nat) : Path :=
  let p := { p with counters := { p.counters with outliers := bump p.counters.outliers } }
  match p.outlierRun.extend (sideOf p.e x) with
  | some r => { p with outlierRun := r }
  | none => ({ p with counters := { p.counters with reseeds := bump p.counters.reseeds } }).seed x

/-- A sample X applied to the estimate of a path in TRIAL: no spike guard (R43). -/
def Path.applyTrial (p : Path) (x : Nat) : Path :=
  match p.est with
  | .valid => p.update x
  | .empty => p.seed x
  | .stale => p.seed x

/-- A sample X applied to the estimate of a path IN SERVICE or HELD, behind the spike guard (R43, R45). -/
def Path.applyService (p : Path) (x : Nat) : Path :=
  match p.est with
  | .valid => if p.tuning.spike * 16 < distance p.e x then p.outlier x else p.update x
  | .empty => p.seed x
  | .stale => p.seed x

/-! ### Results of soundings (R6, R7, R35) -/

/-- A sounding's result as PT and WM take it: valid with S' in ns, or lost (R35). A VOID result reaches neither. -/
inductive SoundResult where
  | valid (sample : Nat)
  | lost
  deriving DecidableEq, Repr

/-- PT's events from one result. -/
structure Judged where
  path : Path
  raised : Option PathEvent
  deriving DecidableEq, Repr

/-- A bad trial result (R6). -/
def Path.trialBad (p : Path) : Judged := ⟨{ p with goodCount := 0, trialFailed := true }, some .trialFailed⟩

/-- A good trial result: applied, counted, and qualifying when the count reaches the trial count (R6, R7). -/
def Path.trialGood (p : Path) (trialCount : Nat) (sample : Nat) : Judged :=
  let p := { p.applyTrial (sample * 16) with goodCount := p.goodCount + 1 }
  if trialCount ≤ p.goodCount then ⟨{ p with life := .inService, trialFailed := false }, some .qualified⟩ else ⟨p, none⟩

/-- PT takes a result for a path (R6, R35, R43). -/
def Path.takeResult (p : Path) (set : Settings) (r : SoundResult) : Judged :=
  match p.life, r with
  | .trial, .valid x => if ((x : Int) - p.tuning.nominal).natAbs ≤ set.trialTolerance then p.trialGood set.trialCount x else p.trialBad
  | .trial, .lost => p.trialBad
  | .inService, .valid x => ⟨p.applyService (x * 16), none⟩
  | .held, .valid x => ⟨p.applyService (x * 16), none⟩
  | _, _ => ⟨p, none⟩

/-- WM counts a result in the path's current window (R69). -/
def WeatherRecord.countResult (w : WeatherRecord) (r : SoundResult) : WeatherRecord :=
  match r with
  | .valid _ => { w with goodResults := bump w.goodResults }
  | .lost => { w with lostSoundings := bump w.lostSoundings }

/-- SU hands a result to PT and WM (R35). -/
def State.handResult (s : State) (i : PathSlot) (r : SoundResult) : State :=
  let p := s.paths.get i
  let judged := p.takeResult s.settings r
  let s := s.onPath i fun _ => { judged.path with weather := if p.measured then p.weather.countResult r else p.weather }
  match judged.raised with
  | none => s
  | some k => s.raisePath k i

/-! ### Ageing (R19) -/

/-- A path's age after one ms tick. -/
def Path.aged (p : Path) : BitVec 16 := bump p.age

/-- Whether a ms tick makes a path's estimate STALE (R19). -/
def Path.goesStale (p : Path) (limit : Nat) : Bool := p.est = .valid && decide (limit < p.aged.toNat)

/-- A path after one ms tick (R19). -/
def Path.age1 (p : Path) (limit : Nat) : Path :=
  if p.est = .valid then { p with age := p.aged, est := if p.goesStale limit then .stale else .valid } else p

/-! ### Path cost (R51 to R57) -/

/-- The cells a new copy of class `c` has ahead of it on a line (R53). -/
def LinePort.ahead (p : LinePort) (c : Urgency) : Nat :=
  match c with
  | .urgent => p.cells .urgent
  | .normal => p.cells .urgent + p.cells .normal

/-- The queue wait W (R53). -/
def LinePort.wait (p : LinePort) (c : Urgency) : Nat := min (p.ahead c * cellTime p.grade) Config.maxWait

/-- The weather penalty P (R54); FADED is not costed, and has none here. -/
def Settings.penalty (set : Settings) (w : Weather) : Nat :=
  match w with
  | .clear => 0
  | .marginal => set.marginPenalty
  | .mending => set.marginPenalty
  | .faded => 0

/-- The cost of a path for a message of class `c` (R56). -/
def State.cost (s : State) (c : Urgency) (i : PathSlot) : Nat :=
  (s.paths.get i).e / 16 + (s.lines.get (s.paths.get i).line).wait c + s.settings.penalty (s.paths.get i).weather.state
    + (s.paths.get i).j / 16 * s.settings.jitterFactor

end Sys2Proof.Machine
end

