-- ==== Sys2Proof/Machine/Sounding.lean ====
section
/-! DEFINITION. The sounding unit: jitter, issue and deferral, losses, voiding, echo matching and echo service (chapter 2). -/

namespace Sys2Proof.Machine

/-! ### Jitter and timeouts -/

/-- One advance of the jitter generator (R27). -/
def jitterNext (v : BitVec 16) : BitVec 16 := if v.getLsbD 0 then (v >>> 1) ^^^ Config.jitterTaps else v >>> 1

/-- The jitter of a draw that left `v`, for a sounding interval in ms, in microseconds (R27). -/
def jitterMicros (v : BitVec 16) (interval : Nat) : Nat := v.toNat % (interval * 125 + 1)

/-- The timeout of a code, in ns; none when disabled (R30). -/
def timeoutOf (code : Nat) : Option Nat :=
  match code with
  | 0 => some 25000000
  | 1 => some 5000000
  | 2 => some 10000000
  | 3 => some 45000000
  | 4 => some 100000000
  | _ => none

/-! ### Issue and deferral (R26, R28, R29) -/

/-- The lowest-numbered free context (R26). -/
def SoundingUnit.freeContext (u : SoundingUnit) : Option ContextId := u.contexts.lowest fun _ c => c.isNone

/-- The context an issue fills (R26). -/
def Path.newContext (p : Path) (i : PathSlot) (id : BitVec 16) : Context := ⟨i, p.line, p.tag, id, timeoutOf p.tuning.timeout, none, none⟩

/-- The sounding unit after path `i` takes context `c`: id, next-due time with its jitter draw, no longer due or waiting (R24 to R28). -/
def SoundingUnit.issue (u : SoundingUnit) (i : PathSlot) (c : ContextId) (p : Path) (micros : Nat) : SoundingUnit :=
  { contexts := u.contexts.set c (some (p.newContext i u.nextId))
    nextDue := u.nextDue.set i (some (micros + p.tuning.interval * 1000 + jitterMicros (jitterNext u.jitter) p.tuning.interval))
    due := u.due.erase i.val
    waiting := u.waiting.erase i.val
    nextId := u.nextId + 1
    jitter := jitterNext u.jitter }

/-- The sounding of path `i` is issued in context `c`: the SOUND joins its line's control slot, which is work for an IDLE line (R26, R30, R104). -/
def State.issue (s : State) (i : PathSlot) (c : ContextId) : State :=
  let p := s.paths.get i
  let entry : SoundEntry := ⟨c, p.tag, s.su.nextId⟩
  let s := s.onSu fun u => u.issue i c p s.micros
  let s := s.onLine p.line fun l => { l with sounds := l.sounds ++ [entry] }
  s.boundary p.line

/-- Whether path `i` is due on a line that can carry its sounding (R26, R29). -/
def State.canIssue (s : State) (i : PathSlot) : Bool := s.su.due.mem i.val && (s.lines.get (s.paths.get i).line).usable

/-- Path `i` is served if it is due on a line that can carry it: issued if a context is free, else deferred, once (R26, R28, R29). -/
def State.servePath (s : State) (i : PathSlot) : State :=
  if s.canIssue i then
    match s.su.freeContext with
    | some c => s.issue i c
    | none =>
      if s.su.waiting.mem i.val then s
      else
        (s.onSu fun u => { u with waiting := u.waiting.insert i.val }).countPath i fun k =>
          { k with soundingsDeferred := bump k.soundingsDeferred }
  else s

/-- Whether free contexts remain for every due path that can be issued (R26). -/
def State.contextsSuffice (s : State) : Bool :=
  decide ((List.finRange 32).countP s.canIssue ≤ (List.finRange 16).countP fun c => (s.su.contexts.get c).isNone)

/-- The order in which the due paths are served: by slot where the contexts suffice (R26); where they do not, the members of the waiting list first, and each part by slot (R28,
log 33). -/
def State.serveOrder (s : State) : List PathSlot :=
  if s.contextsSuffice then List.finRange 32
  else ((List.finRange 32).filter fun i => s.su.waiting.mem i.val) ++ (List.finRange 32).filter fun i => !s.su.waiting.mem i.val

/-- The due paths are served, each in its turn: issued, or deferred once no context is free (R26, R28, R29). Nothing is issued during RESETTING (R174). -/
def State.serve (s : State) : State := if s.resetting then s else s.serveOrder.foldl State.servePath s

/-- The paths that fall due together with path `i`: the measured paths whose next-due time is the same and is reached (R25, R28, log 14). -/
def State.fallingDue (s : State) (i : PathSlot) : FlagSet 32 :=
  match s.su.nextDue.get i with
  | none => 0
  | some t => if t ≤ s.micros then .ofPred fun k => s.su.nextDue.get k = some t && (s.paths.get k).measured else 0

/-! ### Freeing contexts (R31, R36) -/

/-- The contexts that `which` names are freed as VOID, and their SOUNDs not yet started leave the control slots (R36). Nothing is counted. -/
def State.voidContexts (s : State) (which : Context → Bool) : State :=
  let freed : ContextId → Bool := fun c =>
    match s.su.contexts.get c with
    | none => false
    | some x => which x
  { s with
    su := { s.su with contexts := s.su.contexts.mapIdx fun c x => if freed c then none else x }
    lines := s.lines.map fun p => { p with sounds := p.sounds.filter fun e => !freed e.context } }

/-- A context freed (R23). -/
def SoundingUnit.free (u : SoundingUnit) (c : ContextId) : SoundingUnit := { u with contexts := u.contexts.set c none }

/-- Every echo entry marked voided (R39). -/
def LinePort.voidEchoes (p : LinePort) : LinePort := { p with echoes := p.echoes.map fun e => { e with voided := true } }

/-- A jump in TIME: all contexts are voided, every echo entry is marked voided, and the freed contexts go to the waiting list (R28, R36, R39, R142). -/
def State.jump (s : State) : State :=
  let s := s.voidContexts fun _ => true
  ({ s with lines := s.lines.map LinePort.voidEchoes }).serve

/-- Whether TIME is greater than a context's deadline (R31). -/
def Context.expired (c : Context) (time : Stamp) : Bool :=
  match c.deadline with
  | none => false
  | some d => decide (d < time.toNat)

/-- Context `c` is lost: freed, counted, its result handed on, and the context handed to the waiting list (R28, R31, R35). -/
def State.lose (s : State) (c : ContextId) (x : Context) : State :=
  let s := s.onSu (·.free c)
  let s := s.countPath x.path fun k => { k with soundingsLost := bump k.soundingsLost }
  (s.handResult x.path .lost).serve

/-! ### Echo arrival (R32 to R34) -/

/-- Whether an ECHO matches a context (R32). -/
def Context.matchesEcho (c : Context) (line : Line) (tag : BitVec 12) (id : BitVec 16) : Bool :=
  c.line = line && c.tag = tag && c.id = id && c.t1.isSome

/-- The earlier of two candidates by T1, the first of two equal ones (R32, log 20). -/
def earlier (a b : Option (ContextId × Stamp)) : Option (ContextId × Stamp) :=
  match a, b with
  | none, b => b
  | a, none => a
  | some (i, x), some (k, y) => if y < x then some (k, y) else some (i, x)

/-- A context as a candidate for an ECHO, with its T1. -/
def SoundingUnit.candidate (u : SoundingUnit) (line : Line) (tag : BitVec 12) (id : BitVec 16) (c : ContextId) :
    Option (ContextId × Stamp) :=
  match u.contexts.get c with
  | none => none
  | some x => if x.matchesEcho line tag id then x.t1.map fun t => (c, t) else none

/-- The context an ECHO is matched to, with its T1: the matching one of earliest T1 (R32). -/
def SoundingUnit.matching (u : SoundingUnit) (line : Line) (tag : BitVec 12) (id : BitVec 16) : Option (ContextId × Stamp) :=
  ((List.finRange 16).map (u.candidate line tag id)).foldl earlier none

/-- The round trip T4 - T1 - R (R34). -/
def roundTrip (t4 t1 : Stamp) (r : Nat) : Int := (t4.toNat : Int) - t1.toNat - r

/-- The one-way sample after asymmetry, brought into range: floor((RT + 1) / 2) plus the asymmetry (R34). -/
def oneWay (rt asymmetry : Int) : Nat := (clampInt 0 Config.maxDelay ((rt + 1) / 2 + asymmetry)).toNat

/-- A matched ECHO with its voided flag clear: a valid result, or VOID with BAD ECHO (R34). The context is already freed. -/
def State.echoResult (s : State) (line : Line) (path : PathSlot) (rt : Int) : State :=
  if rt < 0 || Config.maxRoundTrip < rt then s.countLine line fun k => { k with badEcho := bump k.badEcho }
  else
    let sample := oneWay rt (s.paths.get path).tuning.asymmetry
    let s := s.countPath path fun k => { k with echoesGood := bump k.echoesGood }
    s.handResult path (.valid sample)

/-- SU takes an ECHO (R32 to R34). -/
def State.takeEcho (s : State) (line : Line) (t4 : Stamp) (tag : BitVec 12) (id : BitVec 16) (voided : Bool) (r : Nat) : State :=
  match s.su.matching line tag id with
  | none => s.countLine line fun k => { k with stray := bump k.stray }
  | some (c, t1) =>
    match s.su.contexts.get c with
    | none => s
    | some x =>
      let s := s.onSu (·.free c)
      (if voided then s else s.echoResult line x.path (roundTrip t4 t1 r)).serve

/-! ### Echo service (R37) -/

/-- SU takes a SOUND of the partner: an echo entry at the slot's tail, or ECHO REFUSED (R37). The entry is work for an IDLE line (R104). -/
def State.takeSound (s : State) (line : Line) (t2 : Stamp) (tag : BitVec 12) (id : BitVec 16) : State :=
  if (s.lines.get line).echoes.length < Config.echoSlotSize then
    (s.onLine line fun p => { p with echoes := p.echoes ++ [⟨tag, id, t2, false⟩] }).boundary line
  else s.countLine line fun k => { k with echoRefused := bump k.echoRefused }

end Sys2Proof.Machine
end

