-- ==== Sys2Proof/Machine/Weather.lean ====
section
/-! DEFINITION. Line carrier and grade, the carrier-loss cascade, the fade window and the weather of a path (chapter 4). -/

namespace Sys2Proof.Machine

/-! ### Window counts (R69) -/

/-- A FEED frame counted good. -/
def WeatherRecord.countGood (w : WeatherRecord) : WeatherRecord := { w with goodFrames := bump w.goodFrames }

/-- A FEED frame counted errored. -/
def WeatherRecord.countErrored (w : WeatherRecord) : WeatherRecord := { w with erroredFrames := bump w.erroredFrames }

/-- WM counts a FEED frame against the path that its line and route tag name, if that path is in its care (R69, R149). -/
def State.countFrame (s : State) (line : Line) (tag : BitVec 12) (good : Bool) : State :=
  match s.findPath line tag with
  | none => s
  | some i =>
    s.onPath i fun p =>
      if p.measured then { p with weather := if good then p.weather.countGood else p.weather.countErrored } else p

/-- A grade recorded into the minimum grade of the measured paths of a line (R69). -/
def Path.recordGrade (line : Line) (grade : Fin 8) (p : Path) : Path :=
  if p.measured && p.line = line then { p with weather := { p.weather with minGrade := min p.weather.minGrade grade } } else p

/-! ### Classes and moves (R71, R72) -/

/-- The classes of an ended window (R71). -/
inductive WindowClass where
  | bad | poor | clean | quiet
  deriving DecidableEq, Repr

/-- The class of an ended window: the first condition of R71's table that holds. -/
def WeatherRecord.classify (w : WeatherRecord) (set : Settings) (medium : Medium) : WindowClass :=
  if set.fadeThreshold ≤ w.erroredFrames.toNat || 2 ≤ w.lostSoundings.toNat || (medium = .radio && w.minGrade.val ≤ set.gradeFloor) then
    .bad
  else if set.marginalThreshold ≤ w.erroredFrames.toNat || w.lostSoundings.toNat = 1 then .poor
  else if w.erroredFrames = 0 && w.lostSoundings = 0 && 1 ≤ w.goodFrames.toNat + w.goodResults.toNat then .clean
  else .quiet

/-- The weather, run count and event of a path after a window of class `c` (R72). -/
def moveWeather (set : Settings) (weather : Weather) (run : BitVec 8) (c : WindowClass) : Weather × BitVec 8 × Option PathEvent :=
  match weather, c with
  | .clear, .bad => (.faded, 0, some .faded)
  | .clear, .poor => (.marginal, 0, none)
  | .clear, .clean => (.clear, run, none)
  | .clear, .quiet => (.clear, run, none)
  | .marginal, .bad => (.faded, 0, some .faded)
  | .marginal, .poor => (.marginal, 0, none)
  | .marginal, .clean => if set.settleWindows ≤ (bump run).toNat then (.clear, 0, some .cleared) else (.marginal, bump run, none)
  | .marginal, .quiet => (.marginal, run, none)
  | .faded, .bad => (.faded, run, none)
  | .faded, .poor => (.faded, run, none)
  | .faded, .clean => (.mending, 1, none)
  | .faded, .quiet => (.faded, run, none)
  | .mending, .bad => (.faded, 0, some .faded)
  | .mending, .poor => (.faded, 0, some .faded)
  | .mending, .clean => if set.recoveryWindows ≤ (bump run).toNat then (.clear, 0, some .cleared) else (.mending, bump run, none)
  | .mending, .quiet => (.mending, run, none)

/-- The move of a path's weather at a close. -/
def Path.weatherMove (p : Path) (set : Settings) : Weather × BitVec 8 × Option PathEvent :=
  moveWeather set p.weather.state p.weather.run (p.weather.classify set (mediumOf p.line))

/-- A path after a fade-window close: its weather moved, its counts 0, its minimum grade its line's grade (R70). -/
def Path.closeWindow (p : Path) (set : Settings) (grade : Fin 8) : Path :=
  if p.measured then { p with weather := ⟨(p.weatherMove set).1, 0, 0, 0, 0, grade, (p.weatherMove set).2.1⟩ } else p

/-- The measured paths whose weather move at this close raises `k` (R72). -/
def State.moved (s : State) (k : PathEvent) : FlagSet 32 :=
  .ofPred fun i => (s.paths.get i).measured && ((s.paths.get i).weatherMove s.settings).2.2 = some k

/-- A fade-window close (R70 to R72). The next window takes the length now in force. -/
def State.closeWindow (s : State) : State :=
  let faded := s.moved .faded
  let cleared := s.moved .cleared
  let s := { s with
    paths := s.paths.map fun (p : Path) => p.closeWindow s.settings (s.lines.get p.line).grade
    window := some ⟨0, s.settings.windowLength⟩ }
  (s.raisePaths .faded faded).raisePaths .cleared cleared

/-! ### Carrier loss and return (R59, R66, R67) -/

/-- Whether WM's cascade fades a path: measured, on the line, not FADED yet (R66). -/
def Path.fades (line : Line) (p : Path) : Bool := p.measured && p.line = line && p.weather.state ≠ .faded

/-- Whether PT's cascade makes a path's estimate STALE (R66). -/
def Path.stales (line : Line) (p : Path) : Bool := p.life ≠ .vacant && p.line = line && p.est = .valid

/-- A path after the WM and PT rows of the cascade of a carrier loss on `line` (R66). -/
def Path.loseCarrier (line : Line) (p : Path) : Path :=
  { p with
    weather := if p.measured && p.line = line then { p.weather with state := .faded, run := 0, minGrade := 0 } else p.weather
    est := if p.stales line then .stale else p.est }

/-- The line port row of the cascade: LOST at grade 0, CARRIER LOSSES counted (R59, R66); with it the line's control slot is emptied (R36, R40). -/
def LinePort.loseCarrier (p : LinePort) : LinePort :=
  { p with grade := 0, echoes := [], sounds := [], counters := { p.counters with carrierLosses := bump p.counters.carrierLosses } }

/-- A carrier loss on a line whose carrier was PRESENT, with its whole cascade (R66, R110). The freed contexts are handed on when every unit has acted (log 26). -/
def State.carrierLoss (s : State) (l : Line) : State :=
  let faded : FlagSet 32 := .ofPred fun i => (s.paths.get i).fades l
  let stale : FlagSet 32 := .ofPred fun i => (s.paths.get i).stales l
  let s := { s with paths := s.paths.map (Path.loseCarrier l) }
  let s := ((s.raiseLine .down l).raisePaths .faded faded).raisePaths .stale stale
  let s := s.voidContexts fun c => c.line = l
  let s := s.onLine l LinePort.loseCarrier
  (s.flush l).serve

/-- A carrier return on a line whose carrier was LOST: PRESENT at the grade, LINE UP, the grade recorded; then SU issues its due soundings and the line reaches a frame
boundary (R67, R104, log 13). -/
def State.carrierReturn (s : State) (l : Line) (grade : Fin 8) : State :=
  let s := (s.onLine l fun p => { p with grade := grade }).raiseLine .up l
  let s := { s with paths := s.paths.map (Path.recordGrade l grade) }
  s.serve.boundary l

/-- The grade a status report leaves on a line (R60). -/
def reportedGrade (carrier : Bool) (grade : Fin 8) : Fin 8 := if carrier then grade else 0

/-- A line takes a grade: a carrier loss, a carrier return, or a change of grade alone (R59, R60, R64). -/
def State.takeGrade (s : State) (l : Line) (grade : Fin 8) : State :=
  if (s.lines.get l).carrier then
    if grade = 0 then s.carrierLoss l
    else
      let s := s.onLine l fun p => { p with grade := grade }
      { s with paths := s.paths.map (Path.recordGrade l grade) }
  else
    if grade = 0 then { s with paths := s.paths.map (Path.recordGrade l 0) }
    else s.carrierReturn l grade

/-- A MODEM STATUS frame taken by the status logic of a radio line: the timer is armed afresh, and the line takes the report (R60, R61). -/
def State.takeStatus (s : State) (l : Line) (carrier : Bool) (grade : Fin 8) : State :=
  (s.onLine l fun p => { p with timer := some (s.clock + Config.statusTimerTicks) }).takeGrade l (reportedGrade carrier grade)

/-- A MODEM STATUS frame with a good header: taken on a radio line whose modem is PRESENT, else discarded (R60, R63, R150). -/
def State.takeModemStatus (s : State) (l : Line) (carrier : Bool) (grade : Fin 8) : State :=
  if (radioOf l).isSome && (s.lines.get l).presence then s.takeStatus l carrier grade
  else s.countLine l fun k => { k with statusDiscarded := bump k.statusDiscarded }

/-! ### Presence and lock (R62, R63) -/

/-- A modem removal taken by the line port (R62). -/
def State.removeModem (s : State) (l : RadioLine) : State :=
  let s := s.onLine (radioLine l) fun p => { p with presence := false, timer := none }
  let s := s.raiseLine .modemChange (radioLine l)
  if (s.lines.get (radioLine l)).carrier then s.carrierLoss (radioLine l) else s

/-- A modem fitting taken by the line port (R62). -/
def State.fitModem (s : State) (l : RadioLine) : State :=
  (s.onLine (radioLine l) fun p => { p with presence := true }).raiseLine .modemChange (radioLine l)

/-- Lock gained, taken by the line port (R63). -/
def State.gainLock (s : State) (l : FibreLine) : State :=
  (s.onLine (fibreLine l) fun p => { p with lock := true }).takeGrade (fibreLine l) 7

/-- Lock lost, taken by the line port (R63). -/
def State.loseLock (s : State) (l : FibreLine) : State :=
  let s := s.onLine (fibreLine l) fun p => { p with lock := false }
  if (s.lines.get (fibreLine l)).carrier then s.carrierLoss (fibreLine l) else s

/-- A status timer's expiry on a radio line: idle again, and a carrier loss with STATUS TIMEOUTS if carrier was PRESENT (R61). -/
def State.timerExpires (s : State) (l : RadioLine) : State :=
  let s := s.onLine (radioLine l) fun p => { p with timer := none }
  if (s.lines.get (radioLine l)).carrier then
    (s.countLine (radioLine l) fun k => { k with statusTimeouts := bump k.statusTimeouts }).carrierLoss (radioLine l)
  else s

end Sys2Proof.Machine
end

