-- ==== Sys2Proof/Machine/Select.lean ====
section
/-! DEFINITION. Feed records, the rate guard, path selection and the hand-over of copies (chapter 5). -/

namespace Sys2Proof.Machine

/-! ### References to paths (R13, R79) -/

/-- The members of a path set that name paths in TRIAL, IN SERVICE or HELD (R79). -/
def State.livePaths (s : State) (set : FlagSet 32) : FlagSet 32 := .ofPred fun i => set.mem i.val && (s.paths.get i).measured

/-- A pin or lead that is a member of the set, else absent (R79, R80). -/
def keepMember (set : FlagSet 32) (p : Option PathSlot) : Option PathSlot := p.filter fun i => set.mem i.val

/-- Whether a feed's lead is the path slot. -/
def Feed.leads (f : Feed) (i : PathSlot) : Bool := f.opened && f.direction = .outbound && f.out.lead = some i

/-- An OUTBOUND feed without its references to a retired path (R13). -/
def Feed.forget (i : PathSlot) (f : Feed) : Feed :=
  if f.opened && f.direction = .outbound then
    { f with out := { f.out with
        pathSet := f.out.pathSet.erase i.val
        pin := if f.out.pin = some i then none else f.out.pin
        lead := if f.out.lead = some i then none else f.out.lead } }
  else f

/-- A route notice of feed slot `k` (R91). -/
def State.notice (s : State) (k : FeedSlot) (old new : Option PathSlot) (reason : Reason) : Notice :=
  ⟨k, (s.feeds.get k).number, old, new, reason, s.tb.time⟩

/-- Every OUTBOUND feed forgets a retired path, and NU takes a notice, in slot order, for each feed whose lead it was (R13). -/
def State.forgetPath (s : State) (i : PathSlot) : State :=
  let hit := (List.finRange 64).filter fun k => (s.feeds.get k).leads i
  let nu := hit.foldl (fun n k => n.take (s.notice k (some i) none .pathGone)) s.nu
  { s with feeds := s.feeds.map (Feed.forget i), nu := nu }

/-! ### Eligibility and ranking (R88, R90, R92, R95) -/

/-- Whether a path is eligible for messages of a feed with this path set (R88). -/
def State.eligible (s : State) (set : FlagSet 32) (i : PathSlot) : Bool :=
  set.mem i.val && (s.paths.get i).life = .inService && (s.paths.get i).est = .valid && (s.paths.get i).weather.state ≠ .faded
    && (s.lines.get (s.paths.get i).line).usable

/-- The eligible paths of a path set, in slot order. -/
def State.eligiblePaths (s : State) (set : FlagSet 32) : List PathSlot := (List.finRange 32).filter (s.eligible set)

/-- The better of the best so far and the next slot: strictly lower wins, so ties stay with the lower slot (R90, R92, R93). -/
def better (score : PathSlot → Nat) (best : Option PathSlot) (i : PathSlot) : Option PathSlot :=
  match best with
  | none => some i
  | some b => if score i < score b then some i else some b

/-- The path of lowest score in a list in slot order, ties to the lower slot. -/
def lowestBy (score : PathSlot → Nat) (l : List PathSlot) : Option PathSlot := l.foldl (better score) none

/-- A path put into its place in a ranking: before the first path of higher score (R95). -/
def insertRanked (score : PathSlot → Nat) (i : PathSlot) : List PathSlot → List PathSlot
  | [] => [i]
  | k :: rest => if score i < score k then i :: k :: rest else k :: insertRanked score i rest

/-- Paths ranked by increasing score, ties to the lower slot, from a list in slot order (R95). -/
def ranked (score : PathSlot → Nat) (l : List PathSlot) : List PathSlot := l.foldl (fun acc i => insertRanked score i acc) []

/-! ### Lead selection (R89 to R91) -/

/-- The medium of a path (R1). -/
def State.pathMedium (s : State) (i : PathSlot) : Medium := mediumOf (s.paths.get i).line

/-- The reason of a change of lead by cost: FALLBACK or RESTORE when the medium changes, else `base` (R91). -/
def State.changeReason (s : State) (old : Option PathSlot) (new : PathSlot) (base : Reason) : Reason :=
  match old with
  | none => base
  | some o =>
    match s.pathMedium o, s.pathMedium new with
    | .radio, .fibre => .fallback
    | .fibre, .radio => .restore
    | .radio, .radio => base
    | .fibre, .fibre => base

/-- The lead that selection settles on when `b` is the eligible path of lowest cost, with the reason if it changes (R89 to R91). -/
def State.chooseLead (s : State) (o : OutFields) (c : Urgency) (b : PathSlot) : PathSlot × Reason :=
  let byCost : PathSlot × Reason :=
    match o.lead with
    | none => (b, .lost)
    | some l =>
      if s.eligible o.pathSet l then
        if s.cost c b + s.settings.switchMargin < s.cost c l then (b, s.changeReason o.lead b .cost) else (l, .cost)
      else (b, s.changeReason o.lead b .lost)
  match o.pin with
  | none => byCost
  | some p => if s.eligible o.pathSet p then (p, .pin) else byCost

/-- The feed's lead becomes `new`; a change is handed to NU as a route notice (R91). -/
def State.setLead (s : State) (k : FeedSlot) (new : Option PathSlot) (reason : Reason) : State :=
  let old := (s.feeds.get k).out.lead
  if old = new then s
  else (s.onOut k fun o => { o with lead := new }).onNu (·.take (s.notice k old new reason))

/-- The second path: the eligible path of lowest cost on a line other than the lead's (R92). -/
def State.secondPath (s : State) (o : OutFields) (c : Urgency) (lead : PathSlot) : Option PathSlot :=
  lowestBy (s.cost c) ((s.eligiblePaths o.pathSet).filter fun i => (s.paths.get i).line ≠ (s.paths.get lead).line)

/-- A candidate of distressed selection (R93). -/
def State.candidate (s : State) (set : FlagSet 32) (i : PathSlot) : Bool :=
  set.mem i.val && (s.paths.get i).life = .inService && (s.lines.get (s.paths.get i).line).usable

/-- The path of distressed selection: the candidate of lowest nominal delay (R93). -/
def State.distressedPath (s : State) (set : FlagSet 32) : Option PathSlot :=
  lowestBy (fun i => (s.paths.get i).tuning.nominal) ((List.finRange 32).filter (s.candidate set))

/-! ### An accepted message (R86, R87, R94) -/

/-- A message that passed the rate guard and was numbered and classed. -/
structure Message where
  number : BitVec 16
  sequence : Seq
  origin : Stamp
  kind : Fin 64
  payload : List Byte
  urgency : Urgency
  deriving DecidableEq, Repr

/-- The class of a message (R87). -/
def State.classOf (s : State) (o : OutFields) (kind : Fin 64) : Urgency :=
  if (s.classMap.mem kind.val || o.defaultUrgency = .urgent) && o.ceiling = .urgent then .urgent else .normal

/-- The copy record of a message on a path (R94). -/
def State.copyOn (s : State) (m : Message) (i : PathSlot) (second : Bool) : Copy :=
  ⟨(s.paths.get i).line, (s.paths.get i).tag, m.urgency, m.number, m.sequence, m.origin, m.kind, m.payload, second⟩

/-- A dropped copy counted on its feed by its index (R94, R102). -/
def OutCounters.busy (k : OutCounters) (second : Bool) : OutCounters :=
  if second then { k with busyDrop1 := bump k.busyDrop1 } else { k with busyDrop0 := bump k.busyDrop0 }

/-- A copy handed to LQM, and FE's count of its answer (R94). -/
def State.handOver (s : State) (k : FeedSlot) (i : PathSlot) (c : Copy) : State :=
  match s.offer c with
  | (s, some _) => s.countPath i fun x => { x with copiesSent := bump x.copiesSent }
  | (s, none) => s.countOut k (·.busy c.second)

/-- A message with an eligible path `b` of lowest cost: the lead is settled, and one or two copies are handed over (R89 to R94). -/
def State.sendSelected (s : State) (k : FeedSlot) (m : Message) (b : PathSlot) : State :=
  let o := (s.feeds.get k).out
  let choice := s.chooseLead o m.urgency b
  let copy0 := s.copyOn m choice.1 false
  let second := if o.twoCopies then s.secondPath o m.urgency choice.1 else none
  let s1 := s.setLead k (some choice.1) choice.2
  let s1 := if o.twoCopies && second.isNone then s1.countOut k fun x => { x with singleSends := bump x.singleSends } else s1
  let s1 := s1.handOver k choice.1 copy0
  match second with
  | none => s1
  | some i => s1.handOver k i (s.copyOn m i true)

/-- A message without an eligible path: distressed selection (R93). -/
def State.sendDistressed (s : State) (k : FeedSlot) (m : Message) : State :=
  let s1 := s.setLead k none .distress
  match s.distressedPath (s.feeds.get k).out.pathSet with
  | none => s1.countOut k fun x => { x with noPath := bump x.noPath }
  | some i => (s1.countOut k fun x => { x with distressed := bump x.distressed }).handOver k i (s.copyOn m i false)

/-- Selection and hand-over of an accepted message (R88 to R94). -/
def State.send (s : State) (k : FeedSlot) (m : Message) : State :=
  match lowestBy (s.cost m.urgency) (s.eligiblePaths (s.feeds.get k).out.pathSet) with
  | some b => s.sendSelected k m b
  | none => s.sendDistressed k m

/-- Whether the rate guard passes a frame (R85). -/
def OutFields.guardOpen (o : OutFields) : Bool := o.rateLimit = 0 || decide (o.rateCount < o.rateLimit)

/-- A frame found for feed `k`: rate guard, numbering, class, selection (R85 to R94). -/
def State.accept (s : State) (k : FeedSlot) (origin : Stamp) (kind : Fin 64) (payload : List Byte) : State :=
  let f := s.feeds.get k
  if f.out.guardOpen then
    let m : Message := ⟨f.number, f.out.nextSeq, origin, kind, payload, s.classOf f.out kind⟩
    let s := s.onOut k fun o =>
      { o with
        rateCount := bump o.rateCount
        nextSeq := o.nextSeq + 1
        counters := { o.counters with accepted := bump o.counters.accepted } }
    s.send k m
  else s.countOut k fun x => { x with rateDrop := bump x.rateDrop }

/-- FE takes a well delimited local frame of port `p`: the checks of R84, then its feed (R85). -/
def State.takeLocal (s : State) (p : Port) (origin : Stamp) (number : BitVec 16) (kind : Fin 64) (payload : List Byte) : State :=
  if payload.length = 0 || Config.maxPayload < payload.length then s.countPort p fun x => { x with oversize := bump x.oversize }
  else
    match s.findFeed .outbound number with
    | none => s.countPort p fun x => { x with unknownFeed := bump x.unknownFeed }
    | some k =>
      if (s.feeds.get k).out.port = p then s.accept k origin kind payload
      else s.countPort p fun x => { x with wrongPort := bump x.wrongPort }

/-- A local frame taken on port `p` (R152): discarded while RESETTING, dropped as BAD LENGTH, or handed to FE. -/
def State.localFrame (s : State) (p : Port) (origin : Stamp) (bytes : List Byte) : State :=
  if s.resetting then s
  else if bytes.length < 5 || bytes.length ≠ 5 + field bytes 3 2 then s.countPort p fun x => { x with badLength := bump x.badLength }
  else s.takeLocal p origin (BitVec.ofNat 16 (field bytes 0 2)) (Fin.ofNat 64 (field bytes 2 1)) (bytes.drop 5)

/-- A moment of a frame on a local port: its origin stamp is taken from TIME at its first byte (R84, R133, R152), but not while RESET_N is low (R176); it is taken at its last byte. -/
def State.localArrives (s : State) (p : Port) (arrival : Arrival) (bytes : List Byte) : State :=
  match arrival with
  | .firstByte => if s.cmp.engine = .held then s else { s with portArrival := s.portArrival.set p (some s.tb.time) }
  | .lastByte => (s.portQuiet p).localFrame p (s.portStamp p) bytes

end Sys2Proof.Machine
end

