-- ==== Sys2Proof/Machine/Arbitration.lean ====
section
/-! DEFINITION. Inbound arbitration against the sequence window, and delivery (chapter 7). -/

namespace Sys2Proof.Machine

/-! ### The seen map (R115) -/

/-- The window size of a size code (11.5). -/
def windowSize (sizeCode : Nat) : Nat := 2 ^ sizeCode

/-- Whether the flag of a sequence number is seen. -/
def seenFlag (w : Nat) (map : BitVec 256) (s : Seq) : Bool := map.getLsbD (s.toNat % w)

/-- The flag of a sequence number marked seen. -/
def markSeen (w : Nat) (map : BitVec 256) (s : Seq) : BitVec 256 := map ||| BitVec.twoPow 256 (s.toNat % w)

/-- The flag of a sequence number marked unseen. -/
def markUnseen (w : Nat) (map : BitVec 256) (s : Seq) : BitVec 256 := map &&& ~~~ (BitVec.twoPow 256 (s.toNat % w))

/-- Every flag of the map marked seen. -/
def allSeen (w : Nat) : BitVec 256 := BitVec.ofNat 256 (2 ^ w - 1)

/-- How many of the `n` numbers from `s` upward have an unseen flag (R119). -/
def countUnseen (w : Nat) (map : BitVec 256) : Nat → Seq → Nat
  | 0, _ => 0
  | n + 1, s => (if seenFlag w map s then 0 else 1) + countUnseen w map n (s + 1)

/-- The flags of the `n` numbers from `s` upward marked unseen (R119). -/
def unseeFrom (w : Nat) : Nat → Seq → BitVec 256 → BitVec 256
  | 0, _, map => map
  | n + 1, s, map => unseeFrom w n (s + 1) (markUnseen w map s)

/-! ### Judgement (R118 to R122) -/

/-- What AU does with an arrival: the window after it, whether the frame is passed, the numbers lost, and how it was judged. -/
inductive Judgement where
  | adopted
  | advanced (lost : Nat)
  | lateFill
  | duplicate
  | tooOld
  | restarted
  deriving DecidableEq, Repr

/-- Whether a judgement passes the frame. -/
def Judgement.passes : Judgement → Bool
  | .adopted => true
  | .advanced _ => true
  | .lateFill => true
  | .duplicate => false
  | .tooOld => false
  | .restarted => true

/-- The signed 32-bit difference d = s - H (R115). -/
def seqDiff (s high : Seq) : Int := (s - high).toInt

/-- The numbers an advance of `d` loses: leaving unseen, or jumped over (R119). -/
def SeqWindow.lostBy (x : SeqWindow) (w d : Nat) : Nat :=
  countUnseen w x.seen (min d w) (x.high - BitVec.ofNat 32 w + 1) + (d - w)

/-- The window after an advance of `d` to `s` (R119). -/
def SeqWindow.advance (x : SeqWindow) (w d : Nat) (s : Seq) : SeqWindow :=
  { x with high := s, seen := markSeen w (unseeFrom w (min d w) (x.high + 1) x.seen) s, tooOldRun := 0 }

/-- A window started or re-based with highest number `h` (R118, R122). -/
def SeqWindow.based (w : Nat) (h : Seq) : SeqWindow := ⟨true, h, allSeen w, 0⟩

/-- The judgement of an arrival at a LIVE window (R119 to R122). -/
def SeqWindow.judgeLive (x : SeqWindow) (w : Nat) (s : Seq) : SeqWindow × Judgement :=
  let d := seqDiff s x.high
  if 0 < d then (x.advance w d.toNat s, .advanced (x.lostBy w d.toNat))
  else if -(w : Int) < d then
    if seenFlag w x.seen s then ({ x with tooOldRun := 0 }, .duplicate)
    else ({ x with seen := markSeen w x.seen s, tooOldRun := 0 }, .lateFill)
  else if x.tooOldRun + 1 < 4 then ({ x with tooOldRun := x.tooOldRun + 1 }, .tooOld)
  else (.based w s, .restarted)

/-- The judgement of an arrival (R118 to R122). -/
def SeqWindow.judge (x : SeqWindow) (w : Nat) (start : StartMode) (s : Seq) : SeqWindow × Judgement :=
  if x.live then x.judgeLive w s
  else
    match start with
    | .adopt => (.based w s, .adopted)
    | .expect e => (SeqWindow.based w (e - 1)).judgeLive w s

/-- The feed's counters after a judgement (R118 to R122, R129). -/
def InCounters.judged (k : InCounters) : Judgement → InCounters
  | .adopted => { k with delivered := bump k.delivered }
  | .advanced n => { k with delivered := bump k.delivered, lost := satAdd k.lost n }
  | .lateFill => { k with delivered := bump k.delivered, lateFills := bump k.lateFills }
  | .duplicate => { k with duplicates := bump k.duplicates }
  | .tooOld => { k with tooOld := bump k.tooOld }
  | .restarted => { k with delivered := bump k.delivered, tooOld := bump k.tooOld, restarts := bump k.restarts }

/-- The event of a judgement (R119, R122). -/
def Judgement.event : Judgement → Option FeedEvent
  | .adopted => none
  | .advanced n => if n = 0 then none else some .gap
  | .lateFill => none
  | .duplicate => none
  | .tooOld => none
  | .restarted => some .restart

/-! ### Delivery (R124 to R127) -/

/-- Whether a port's FIFO refuses a delivery (R125). -/
def LocalPort.full (p : LocalPort) : Bool := Config.fifoFrames ≤ p.fifo.length

/-- A port offered a delivery: taken at the FIFO's tail, or DELIVERY DROP (R125). -/
def LocalPort.offer (p : LocalPort) (d : Delivery) : LocalPort :=
  if p.full then { p with counters := { p.counters with deliveryDrop := bump p.counters.deliveryDrop } }
  else { p with fifo := p.fifo ++ [d] }

/-- How many ports of a mask refuse a delivery (R125). -/
def State.refusals (s : State) (mask : FlagSet 4) : Nat :=
  ((List.finRange 4).filter fun p => mask.mem p.val && (s.ports.get p).full).length

/-- A passed frame delivered to every port of the feed's mask, its refusals counted on ports and feed, and its path's win (R125, R127). -/
def State.deliver (s : State) (k : FeedSlot) (d : Delivery) : State :=
  let mask := (s.feeds.get k).inb.mask
  let n := s.refusals mask
  let s := { s with ports := s.ports.mapIdx fun p (q : LocalPort) => if mask.mem p.val then q.offer d else q }
  let s := s.countInb k fun c => { c with deliveryDrop := satAdd c.deliveryDrop n }
  match d.path with
  | none => s
  | some i => s.onPath i fun p => { p with wins := bump p.wins }

/-- AU judges an arrival of feed `k` and delivers it if it passes (R118 to R127). -/
def State.arbitrate (s : State) (k : FeedSlot) (d : Delivery) (seq : Seq) : State :=
  let b := (s.feeds.get k).inb
  let judged := b.window.judge (windowSize b.sizeCode) b.start seq
  let s := s.onInb k fun x => { x with window := judged.1, counters := x.counters.judged judged.2 }
  let s := match judged.2.event with
    | none => s
    | some e => s.raiseFeed e k
  if judged.2.passes then s.deliver k d else s

/-- AU takes a FEED frame that passed both checks (R117). -/
def State.takeFeed (s : State) (line : Line) (arrival : Stamp) (h : FeedHeader) (payload : List Byte) : State :=
  match s.findFeed .inbound h.number with
  | none => s.countLine line fun k => { k with unknownFeed := bump k.unknownFeed }
  | some k => s.arbitrate k ⟨h.number, h.kind, payload, h.origin, arrival, s.findPath line h.tag, line, h.second⟩ h.sequence

/-! ### Receiving on a line (R148 to R150) -/

/-- A FEED frame with a good header on a line with carrier: the payload check, WM's count, and AU (R149). -/
def State.receiveFeed (s : State) (line : Line) (arrival : Stamp) (bytes : List Byte) : State :=
  let h := feedHeader bytes
  if payloadGood bytes then (s.countFrame line h.tag true).takeFeed line arrival h (bytes.drop 32)
  else (s.countLine line fun k => { k with badPayload := bump k.badPayload }).countFrame line h.tag false

/-- A frame with a good header: NO CARRIER for FEED, SOUND and ECHO on a LOST line, else on by its kind (R148 steps 6 and 7, R149, R150). -/
def State.receiveKind (s : State) (line : Line) (arrival : Stamp) (bytes : List Byte) (k : FrameKind) : State :=
  match k with
  | .modemStatus => s.takeModemStatus line (statusCarrier bytes) (statusGrade bytes)
  | .feed =>
    if (s.lines.get line).carrier then s.receiveFeed line arrival bytes
    else s.countLine line fun c => { c with noCarrier := bump c.noCarrier }
  | .sound =>
    if (s.lines.get line).carrier then s.takeSound line arrival (controlTag bytes) (controlId bytes)
    else s.countLine line fun c => { c with noCarrier := bump c.noCarrier }
  | .echo =>
    if (s.lines.get line).carrier then s.takeEcho line arrival (controlTag bytes) (controlId bytes) (echoVoided bytes) (echoResidence bytes)
    else s.countLine line fun c => { c with noCarrier := bump c.noCarrier }

/-- A line frame taken and judged from its bytes (R148). -/
def State.lineFrame (s : State) (line : Line) (arrival : Stamp) (bytes : List Byte) : State :=
  if s.resetting then s
  else if (s.lines.get line).rxEnable then
    match goodHeader bytes with
    | none => s.countLine line fun c => { c with badHeader := bump c.badHeader }
    | some k => s.receiveKind line arrival bytes k
  else s.countLine line fun c => { c with rxOff := bump c.rxOff }

/-- A moment of a frame on a line: its stamp is taken from TIME at its first byte in every engine state (R133), but not while RESET_N is low (R176); it is judged at its last byte
(R148). -/
def State.lineArrives (s : State) (line : Line) (arrival : Arrival) (bytes : List Byte) : State :=
  match arrival with
  | .firstByte => if s.cmp.engine = .held then s else { s with lineArrival := s.lineArrival.set line (some s.tb.time) }
  | .lastByte => (s.lineQuiet line).lineFrame line (s.lineStamp line) bytes

end Sys2Proof.Machine
end

