-- ==== Sys2Proof/Machine/Time.lean ====
section
/-! DEFINITION. The time base: ticks and corrections, steps, sets, the PPS edge, and the timed events (chapter 8, R19, R25). -/

namespace Sys2Proof.Machine

/-! ### Core ticks (R131, R136) -/

/-- The largest TIME (R131). -/
def timeMax : Nat := 2 ^ 64 - 1

/-- TIME and its fraction as one number of 96 bits (R131). -/
def TimeBase.wide (t : TimeBase) : Nat := t.time.toNat * 2 ^ 32 + t.frac.toNat

/-- STEP in units of 2^-32 ns. -/
def TimeBase.stepUnits (t : TimeBase) : Nat := t.step.toNat

/-- The corrections that `n` ticks carry: one at every 1,000th tick until the remainder is 0 (R136). -/
def TimeBase.corrections (t : TimeBase) (n : Nat) : Nat := min t.slew.natAbs ((t.slewTicks + n) / 1000)

/-- The sum of TIME and fraction after `n` ticks with their corrections, before TIME is held at its maximum (R131, R136). -/
def TimeBase.sumAfter (t : TimeBase) (n : Nat) : Nat :=
  ((t.wide + n * t.stepUnits : Nat) + t.slew.sign * (t.corrections n * 2 ^ 32 : Nat) : Int).toNat

/-- The slew remainder after `n` ticks (R136). -/
def TimeBase.slewAfter (t : TimeBase) (n : Nat) : Int := t.slew - t.slew.sign * t.corrections n

/-- The time base after `n` core ticks one after another (R131, R136). TIME at its maximum stays there while its fraction counts on. -/
def TimeBase.ticks (t : TimeBase) (n : Nat) : TimeBase :=
  { t with
    time := BitVec.ofNat 64 (min (t.sumAfter n / 2 ^ 32) timeMax)
    frac := BitVec.ofNat 32 (t.sumAfter n % 2 ^ 32)
    slew := t.slewAfter n
    slewTicks := if t.slewAfter n = 0 then 0 else (t.slewTicks + n) % 1000 }

/-- Whether `n` ticks bring the remainder to 0, which raises SLEW DONE (R136). -/
def TimeBase.slewEnds (t : TimeBase) (n : Nat) : Bool := t.slew ≠ 0 && t.slewAfter n = 0

/-- The part after `n` core ticks: nothing counts in hardware reset or initialisation (R131, R176). -/
def State.tick (s : State) (n : Nat) : State :=
  if s.off then s
  else
    let s1 := { s with clock := s.clock + n, tb := s.tb.ticks n }
    if s.tb.slewEnds n then s1.raisePlain .slewDone else s1

/-- Whether the next core tick is the 1,000th, and carries a correction (R136). -/
def TimeBase.correctionDue (t : TimeBase) : Bool := t.slew ≠ 0 && decide (999 ≤ t.slewTicks)

/-! ### Moving TIME (R135 to R140) -/

/-- TIME after an offset, held at either end (R135). -/
def TimeBase.stepped (t : TimeBase) (offset : Int) : Nat := (clampInt 0 timeMax ((t.time.toNat : Int) + offset)).toNat

/-- A slew ended without SLEW DONE (R137, log 22). -/
def TimeBase.endSlew (t : TimeBase) : TimeBase := { t with slew := 0, slewTicks := 0 }

/-- TIME jumps to `time`, the slew ends, contexts and echo entries are voided, and TIME STEPPED is raised (R135, R138). -/
def State.timeJump (s : State) (tb : TimeBase) : State := ({ s with tb := tb.endSlew }.raisePlain .timeStepped).jump

/-- A rising edge on PPS_IN: the record is written, PPS raised, and a pending TIME-SET applied (R140). -/
def State.ppsEdge (s : State) : State :=
  if s.off then s
  else
    let s := (s.onTb fun t => { t with ppsStamp := t.time, ppsCount := t.ppsCount + 1 }).raisePlain .pps
    match s.tb.pendingSet with
    | none => s
    | some x => ((s.onTb fun t => { t with time := x.value, frac := 0, pendingSet := none }).raisePlain .timeSetDone).jump

/-- A pending TIME-SET whose expiry has passed is dropped (R141). -/
def State.expireSet (s : State) : State :=
  match s.tb.pendingSet with
  | none => s
  | some x => if x.expiry ≤ s.clock then (s.onTb fun t => { t with pendingSet := none }).raisePlain .timeSetExpired else s

/-! ### The ms tick (R19, R70, R85) -/

/-- An OUTBOUND feed after a ms tick: its rate count is 0 (R85). -/
def Feed.clearRate (f : Feed) : Feed :=
  if f.opened && f.direction = .outbound then { f with out := { f.out with rateCount := 0 } } else f

/-- PT's ageing at a ms tick (R19). -/
def State.ageAll (s : State) : State :=
  let stale : FlagSet 32 := .ofPred fun i => (s.paths.get i).goesStale s.settings.ageLimit
  ({ s with paths := s.paths.map fun (p : Path) => p.age1 s.settings.ageLimit }).raisePaths .stale stale

/-- A ms tick: ageing unless RESETTING, rate counts cleared, the window timer counted on (R19, R70, R85, R175). -/
def State.msTick (s : State) : State :=
  if s.off || decide (s.clock < s.nextMs) then s
  else
    let s := { s with
      nextMs := s.nextMs + Config.ticksPerMilli
      feeds := s.feeds.map Feed.clearRate
      window := s.window.map fun x => { x with elapsed := x.elapsed + 1 } }
    if s.resetting then s else s.ageAll

/-- A fade-window close, once the window has lasted its length (R70). -/
def State.windowClose (s : State) : State :=
  match s.window with
  | none => s
  | some x => if x.length ≤ x.elapsed then s.closeWindow else s

/-- A status timer's expiry, once the core clock has reached it (R61). -/
def State.statusTimer (s : State) (l : RadioLine) : State :=
  match (s.lines.get (radioLine l)).timer with
  | none => s
  | some t => if t ≤ s.clock then s.timerExpires l else s

/-- The next-due time of path `i` is reached: it falls due with the paths of the same time, and the due paths are served (R25 to R29). -/
def State.soundingDue (s : State) (i : PathSlot) : State :=
  if s.resetting then s
  else
    let fell := s.fallingDue i
    (s.onSu fun u => { u with due := u.due ||| fell }).serve

/-- Context `c` is lost if its deadline is passed; none is lost during RESETTING (R31, R174). -/
def State.soundingLost (s : State) (c : ContextId) : State :=
  match s.su.contexts.get c with
  | none => s
  | some x => if x.expired s.tb.time && !s.resetting then s.lose c x else s

/-- A frame's transmission ends: its completion, and the frame boundary that follows (R108). -/
def State.frameCompletion (s : State) (l : Line) : State :=
  match (s.lines.get l).tx with
  | none => s
  | some x => if x.ended s.clock then (s.complete l x).boundary l else s

/-- The lane reports the end of a sending: the head leaves the FIFO and DELIVERED FRAMES is counted (R126). -/
def State.localSendEnd (s : State) (p : Port) : State :=
  match (s.ports.get p).fifo with
  | [] => s
  | _ :: rest =>
    s.onPort p fun q => { q with fifo := rest, counters := { q.counters with deliveredFrames := bump q.counters.deliveredFrames } }

end Sys2Proof.Machine
end

