-- ==== Sys2Proof/Machine/Operands.lean ====
section
/-! DEFINITION. The operand forms of requests and the layouts of responses (R166, R170, R171, 11.5). A form that is absent is answered MALFORMED. -/

namespace Sys2Proof.Machine

/-! ### Answers -/

/-- A request's answer before it is put in the buffer: its result and its field bytes (R167). -/
structure Reply where
  result : Result
  fields : List Byte
  deriving DecidableEq, Repr

/-- A refusal: a result without fields (R167). -/
def refuse (r : Result) : Reply := ⟨r, []⟩

/-- DONE with fields. -/
def done (fields : List Byte) : Reply := ⟨.done, fields⟩

/-- ADJUSTED if a value was brought into range or a member dropped, else DONE (R170). -/
def doneOr (adjusted : Bool) (fields : List Byte) : Reply := ⟨if adjusted then .adjusted else .done, fields⟩

/-! ### Operand forms -/

/-- A byte of a request body. -/
def byteAt (body : List Byte) (i : Nat) : Nat := field body i 1

/-- A slot, line or port below `n`, else MALFORMED (R3, R78). -/
def indexOf (n v : Nat) : Option (Fin n) := if h : v < n then some ⟨v, h⟩ else none

/-- A slot choice: FFh is ANY (R171). -/
inductive SlotChoice (n : Nat) where
  | any
  | named (i : Fin n)
  deriving DecidableEq, Repr

/-- The slot choice a byte spells (R171). -/
def slotChoice (n v : Nat) : Option (SlotChoice n) := if v = 255 then some .any else (indexOf n v).map .named

/-- An optional path slot: FFh is absent (R171). -/
def optionalSlot (v : Nat) : Option (Option PathSlot) := if v = 255 then some none else (indexOf 32 v).map some

/-- A route tag, 0 to 4,095 (R4). -/
def tagOf (v : Nat) : Option (BitVec 12) := if v ≤ 4095 then some (BitVec.ofNat 12 v) else none

/-- An enable: 0 off, 1 on (11.5). -/
def enableOf (v : Nat) : Option Bool :=
  match v with
  | 0 => some false
  | 1 => some true
  | _ => none

/-- A class or urgency: 0 NORMAL, 1 URGENT (11.5). -/
def urgencyOf (v : Nat) : Option Urgency :=
  match v with
  | 0 => some .normal
  | 1 => some .urgent
  | _ => none

/-- A direction: 0 OUTBOUND, 1 INBOUND (11.5). -/
def directionOf (v : Nat) : Option Direction :=
  match v with
  | 0 => some .outbound
  | 1 => some .inbound
  | _ => none

/-- A ratio: 0 STRICT, 1 8:1, 2 4:1, 3 2:1 (11.5). -/
def ratioOf (v : Nat) : Option Ratio :=
  match v with
  | 0 => some .strict
  | 1 => some .eight
  | 2 => some .four
  | 3 => some .two
  | _ => none

/-- A share mode: 0 SHARED, 1 ISOLATED (R172). -/
def shareOf (v : Nat) : Option Share :=
  match v with
  | 0 => some .shared
  | 1 => some .isolated
  | _ => none

/-- A copies count of 1 or 2, as whether it is 2 (R78). -/
def copiesOf (v : Nat) : Option Bool :=
  match v with
  | 1 => some false
  | 2 => some true
  | _ => none

/-- A start mode: 0 ADOPT, 1 EXPECT with its expected sequence, which ADOPT ignores (11.5). -/
def startOf (v e : Nat) : Option StartMode :=
  match v with
  | 0 => some .adopt
  | 1 => some (.expect (BitVec.ofNat 32 e))
  | _ => none

/-- A window size code, 4 to 8 (11.5). -/
def sizeCodeOf (v : Nat) : Option Nat := if 4 ≤ v && v ≤ 8 then some v else none

/-- A delivery mask, not empty; bits beyond the four ports are ignored (R78, R171). -/
def maskOf (v : Nat) : Option (FlagSet 4) := if BitVec.ofNat 4 v = 0 then none else some (BitVec.ofNat 4 v)

/-- A field behind presence bit `k`: not carried, carried with a value, or MALFORMED. A field not carried is not checked (R171). -/
def carried {α : Type} (presence k : Nat) (value : Option α) : Option (Option α) :=
  if presence.testBit k then value.map some else some none

/-- A tuning field behind presence bit `k`. -/
def carriedValue {α : Type} (presence k : Nat) (value : α) : Option α := if presence.testBit k then some value else none

/-- The clear-counters option (R171). -/
def clearOption (options : Nat) : Bool := options.testBit 0

/-! ### Tuning fields (R4, R16) -/

/-- The tuning fields a request carries. -/
structure TuningRequest where
  nominal : Option Nat
  asymmetry : Option Int
  shift : Option Nat
  spike : Option Nat
  interval : Option Nat
  timeout : Option Nat
  deriving DecidableEq, Repr

/-- The value a carried field keeps, or the value it had. -/
def keptValue {α : Type} (clamp : α → α) (given : Option α) (old : α) : α := (given.map clamp).getD old

/-- Whether a carried field was brought into its range. -/
def wasClamped {α : Type} [DecidableEq α] (clamp : α → α) (given : Option α) : Bool := given.any fun v => clamp v ≠ v

/-- Range of the nominal delay (R4). -/
def clampNominal : Nat → Nat := clampNat 0 Config.maxDelay

/-- Range of the asymmetry (R4). -/
def clampAsymmetry : Int → Int := clampInt (-1000000) 1000000

/-- Range of the smoothing shift (R4). -/
def clampShift : Nat → Nat := clampNat 0 7

/-- Range of the spike limit (R4). -/
def clampSpike : Nat → Nat := clampNat 1000 1000000

/-- Range of the sounding interval (R4). -/
def clampInterval : Nat → Nat := clampNat 1 1000

/-- Range of the timeout code (R4). -/
def clampTimeout : Nat → Nat := clampNat 0 5

/-- The tuning fields after a request, over the values they had (R4, R16). -/
def TuningRequest.kept (r : TuningRequest) (old : Tuning) : Tuning :=
  { nominal := keptValue clampNominal r.nominal old.nominal
    asymmetry := keptValue clampAsymmetry r.asymmetry old.asymmetry
    shift := keptValue clampShift r.shift old.shift
    spike := keptValue clampSpike r.spike old.spike
    interval := keptValue clampInterval r.interval old.interval
    timeout := keptValue clampTimeout r.timeout old.timeout }

/-- Whether any value was brought into range (R4, R16). -/
def TuningRequest.adjusted (r : TuningRequest) : Bool :=
  wasClamped clampNominal r.nominal || wasClamped clampAsymmetry r.asymmetry || wasClamped clampShift r.shift
    || wasClamped clampSpike r.spike || wasClamped clampInterval r.interval || wasClamped clampTimeout r.timeout

/-- The defaults of tuning fields that a PATH-ADD does not carry (R4). -/
def Tuning.defaults : Tuning := ⟨0, 0, 3, 50000, 20, 0⟩

/-! ### Requests with many fields (11.5) -/

/-- The fields of PATH-ADD. -/
structure PathAddRequest where
  slot : SlotChoice 32
  line : Line
  tag : BitVec 12
  tuning : TuningRequest
  deriving DecidableEq, Repr

/-- PATH-ADD: 22 bytes with its code (R4, 11.5). -/
def parsePathAdd (body : List Byte) : Option PathAddRequest :=
  if body.length ≠ 21 then none
  else do
    let slot ← slotChoice 32 (byteAt body 0)
    let line ← indexOf 6 (byteAt body 1)
    let tag ← tagOf (field body 2 2)
    let presence := byteAt body 8
    pure ⟨slot, line, tag,
      { nominal := some (field body 4 4)
        asymmetry := carriedValue presence 0 (signed32 (field body 9 4))
        shift := carriedValue presence 1 (byteAt body 13)
        spike := carriedValue presence 2 (field body 14 4)
        interval := carriedValue presence 3 (field body 18 2)
        timeout := carriedValue presence 4 (byteAt body 20) }⟩

/-- PATH-SET: 19 bytes with its code (R16, 11.5). -/
def parsePathSet (body : List Byte) : Option (PathSlot × TuningRequest) :=
  if body.length ≠ 18 then none
  else do
    let slot ← indexOf 32 (byteAt body 0)
    let presence := byteAt body 1
    pure (slot,
      { nominal := carriedValue presence 0 (field body 2 4)
        asymmetry := carriedValue presence 1 (signed32 (field body 6 4))
        shift := carriedValue presence 2 (byteAt body 10)
        spike := carriedValue presence 3 (field body 11 4)
        interval := carriedValue presence 4 (field body 15 2)
        timeout := carriedValue presence 5 (byteAt body 17) })

/-- The fields of an OUTBOUND FEED-OPEN. -/
structure OpenOutRequest where
  slot : SlotChoice 64
  number : BitVec 16
  port : Port
  pathSet : FlagSet 32
  twoCopies : Bool
  pin : Option PathSlot
  rateLimit : BitVec 16
  defaultUrgency : Urgency
  ceiling : Urgency
  startSeq : Seq
  deriving DecidableEq, Repr

/-- A feed number, 1 to 65,535 (R78). -/
def feedNumberOf (v : Nat) : Option (BitVec 16) := if BitVec.ofNat 16 v = 0 then none else some (BitVec.ofNat 16 v)

/-- FEED-OPEN, OUTBOUND: 21 bytes with its code; fields not carried take their closed values (R78, R79, 11.5). -/
def parseOpenOut (body : List Byte) : Option OpenOutRequest :=
  if body.length ≠ 20 then none
  else do
    let slot ← slotChoice 64 (byteAt body 0)
    let number ← feedNumberOf (field body 2 2)
    let port ← indexOf 4 (byteAt body 4)
    let copies ← copiesOf (byteAt body 9)
    let presence := byteAt body 10
    let pin ← carried presence 0 (optionalSlot (byteAt body 11))
    let urgency ← carried presence 2 (urgencyOf (byteAt body 14))
    let ceiling ← carried presence 3 (urgencyOf (byteAt body 15))
    pure { slot := slot, number := number, port := port, pathSet := BitVec.ofNat 32 (field body 5 4), twoCopies := copies
           pin := pin.getD none
           rateLimit := (carriedValue presence 1 (BitVec.ofNat 16 (field body 12 2))).getD OutFields.closed.rateLimit
           defaultUrgency := urgency.getD OutFields.closed.defaultUrgency
           ceiling := ceiling.getD OutFields.closed.ceiling
           startSeq := (carriedValue presence 4 (BitVec.ofNat 32 (field body 16 4))).getD OutFields.closed.nextSeq }

/-- The fields of an INBOUND FEED-OPEN. -/
structure OpenInRequest where
  slot : SlotChoice 64
  number : BitVec 16
  mask : FlagSet 4
  sizeCode : Nat
  start : StartMode
  deriving DecidableEq, Repr

/-- FEED-OPEN, INBOUND: 12 bytes with its code (R78, 11.5). -/
def parseOpenIn (body : List Byte) : Option OpenInRequest :=
  if body.length ≠ 11 then none
  else do
    let slot ← slotChoice 64 (byteAt body 0)
    let number ← feedNumberOf (field body 2 2)
    let mask ← maskOf (byteAt body 4)
    let size ← sizeCodeOf (byteAt body 5)
    let start ← startOf (byteAt body 6) (field body 7 4)
    pure ⟨slot, number, mask, size, start⟩

/-- The fields an OUTBOUND FEED-SET carries. -/
structure SetOutRequest where
  pathSet : Option (FlagSet 32)
  twoCopies : Option Bool
  pin : Option (Option PathSlot)
  rateLimit : Option (BitVec 16)
  defaultUrgency : Option Urgency
  ceiling : Option Urgency
  deriving DecidableEq, Repr

/-- FEED-SET, OUTBOUND: 14 bytes with its code (R80, 11.5). -/
def parseSetOut (body : List Byte) : Option (FeedSlot × SetOutRequest) :=
  if body.length ≠ 13 then none
  else do
    let slot ← indexOf 64 (byteAt body 0)
    let presence := byteAt body 2
    let copies ← carried presence 1 (copiesOf (byteAt body 7))
    let pin ← carried presence 2 (optionalSlot (byteAt body 8))
    let urgency ← carried presence 4 (urgencyOf (byteAt body 11))
    let ceiling ← carried presence 5 (urgencyOf (byteAt body 12))
    pure (slot,
      { pathSet := carriedValue presence 0 (BitVec.ofNat 32 (field body 3 4))
        twoCopies := copies
        pin := pin
        rateLimit := carriedValue presence 3 (BitVec.ofNat 16 (field body 9 2))
        defaultUrgency := urgency
        ceiling := ceiling })

/-- FEED-SET, INBOUND: 4 bytes with its code (R80, 11.5). -/
def parseSetIn (body : List Byte) : Option (FeedSlot × FlagSet 4) :=
  if body.length ≠ 3 then none
  else do
    let slot ← indexOf 64 (byteAt body 0)
    let mask ← maskOf (byteAt body 2)
    pure (slot, mask)

/-- The settings a SYSTEM-SET carries, in its order (R172). -/
structure SettingsRequest where
  trialCount : Option Nat
  trialTolerance : Option Nat
  ageLimit : Option Nat
  marginPenalty : Option Nat
  jitterFactor : Option Nat
  windowLength : Option Nat
  fadeThreshold : Option Nat
  marginalThreshold : Option Nat
  gradeFloor : Option Nat
  settleWindows : Option Nat
  recoveryWindows : Option Nat
  switchMargin : Option Nat
  share : Option Share
  reserve : Option Bool
  deriving DecidableEq, Repr

/-- SYSTEM-SET: 27 bytes with its code (R172, 11.5). -/
def parseSystemSet (body : List Byte) : Option SettingsRequest :=
  if body.length ≠ 26 then none
  else do
    let p := field body 0 2
    let share ← carried p 12 (shareOf (byteAt body 24))
    let reserve ← carried p 13 (enableOf (byteAt body 25))
    pure
      { trialCount := carriedValue p 0 (byteAt body 2)
        trialTolerance := carriedValue p 1 (field body 3 4)
        ageLimit := carriedValue p 2 (field body 7 2)
        marginPenalty := carriedValue p 3 (field body 9 4)
        jitterFactor := carriedValue p 4 (byteAt body 13)
        windowLength := carriedValue p 5 (byteAt body 14)
        fadeThreshold := carriedValue p 6 (byteAt body 15)
        marginalThreshold := carriedValue p 7 (byteAt body 16)
        gradeFloor := carriedValue p 8 (byteAt body 17)
        settleWindows := carriedValue p 9 (byteAt body 18)
        recoveryWindows := carriedValue p 10 (byteAt body 19)
        switchMargin := carriedValue p 11 (field body 20 4)
        share := share
        reserve := reserve }

/-- The settings after a SYSTEM-SET, each carried one in its range, M at most F as F then stands (R21, R58, R74, R96, R172). -/
def SettingsRequest.kept (r : SettingsRequest) (old : Settings) : Settings :=
  let f := keptValue (clampNat 1 255) r.fadeThreshold old.fadeThreshold
  { trialCount := keptValue (clampNat 1 64) r.trialCount old.trialCount
    trialTolerance := keptValue (clampNat 0 5000000) r.trialTolerance old.trialTolerance
    ageLimit := keptValue (clampNat 10 4000) r.ageLimit old.ageLimit
    marginPenalty := keptValue (clampNat 0 1000000) r.marginPenalty old.marginPenalty
    jitterFactor := keptValue (clampNat 0 3) r.jitterFactor old.jitterFactor
    windowLength := keptValue (clampNat 1 255) r.windowLength old.windowLength
    fadeThreshold := f
    marginalThreshold := min (keptValue (clampNat 1 255) r.marginalThreshold old.marginalThreshold) f
    gradeFloor := keptValue (clampNat 0 7) r.gradeFloor old.gradeFloor
    settleWindows := keptValue (clampNat 1 255) r.settleWindows old.settleWindows
    recoveryWindows := keptValue (clampNat 1 255) r.recoveryWindows old.recoveryWindows
    switchMargin := keptValue (clampNat 0 1000000) r.switchMargin old.switchMargin
    share := r.share.getD old.share
    reserve := r.reserve.getD old.reserve }

/-- The settings as a SYSTEM-SET gives them, before any is brought into range. -/
def SettingsRequest.given (r : SettingsRequest) (old : Settings) : Settings :=
  { trialCount := r.trialCount.getD old.trialCount
    trialTolerance := r.trialTolerance.getD old.trialTolerance
    ageLimit := r.ageLimit.getD old.ageLimit
    marginPenalty := r.marginPenalty.getD old.marginPenalty
    jitterFactor := r.jitterFactor.getD old.jitterFactor
    windowLength := r.windowLength.getD old.windowLength
    fadeThreshold := r.fadeThreshold.getD old.fadeThreshold
    marginalThreshold := r.marginalThreshold.getD old.marginalThreshold
    gradeFloor := r.gradeFloor.getD old.gradeFloor
    settleWindows := r.settleWindows.getD old.settleWindows
    recoveryWindows := r.recoveryWindows.getD old.recoveryWindows
    switchMargin := r.switchMargin.getD old.switchMargin
    share := r.share.getD old.share
    reserve := r.reserve.getD old.reserve }

/-- Whether a SYSTEM-SET brought a value into range, M lowered with F included (R74, R172). -/
def SettingsRequest.adjusted (r : SettingsRequest) (old : Settings) : Bool := r.kept old ≠ r.given old

/-- The fields a LINE-SET carries. -/
structure LineSetRequest where
  line : Line
  txEnable : Option Bool
  rxEnable : Option Bool
  ratio : Option Ratio
  deriving DecidableEq, Repr

/-- LINE-SET: 6 bytes with its code (R112, 11.5). -/
def parseLineSet (body : List Byte) : Option LineSetRequest :=
  if body.length ≠ 5 then none
  else do
    let line ← indexOf 6 (byteAt body 0)
    let p := byteAt body 1
    let tx ← carried p 0 (enableOf (byteAt body 2))
    let rx ← carried p 1 (enableOf (byteAt body 3))
    let ratio ← carried p 2 (ratioOf (byteAt body 4))
    pure ⟨line, tx, rx, ratio⟩

/-! ### Enumeration codes (R171, 11.5) -/

/-- A flag: 0 clear, 1 set. -/
def flagByte (b : Bool) : Byte := if b then 1 else 0

/-- Result codes (R170). -/
def Result.byte : Result → Byte
  | .done => 0x00
  | .adjusted => 0x01
  | .noSlot => 0x02
  | .inUse => 0x03
  | .wrongState => 0x04
  | .notFound => 0x05
  | .malformed => 0x06
  | .pending => 0x07
  | .nothing => 0x08

/-- Lifecycle codes. -/
def Lifecycle.byte : Lifecycle → Byte
  | .vacant => 0
  | .trial => 1
  | .inService => 2
  | .held => 3
  | .withdrawing => 4

/-- Medium codes. -/
def Medium.byte : Medium → Byte
  | .radio => 0
  | .fibre => 1

/-- Estimate state codes. -/
def EstimateState.byte : EstimateState → Byte
  | .empty => 0
  | .valid => 1
  | .stale => 2

/-- Outlier sign codes. -/
def Side.byte : Side → Byte
  | .above => 1
  | .below => 2

/-- The outlier run's sign and count. -/
def OutlierRun.bytes : OutlierRun → List Byte
  | .none => [0, 0]
  | .one s => [s.byte, 1]
  | .two s => [s.byte, 2]

/-- Weather codes. -/
def Weather.byte : Weather → Byte
  | .clear => 0
  | .marginal => 1
  | .faded => 2
  | .mending => 3

/-- Class and urgency codes. -/
def Urgency.byte : Urgency → Byte
  | .normal => 0
  | .urgent => 1

/-- Direction codes. -/
def Direction.byte : Direction → Byte
  | .outbound => 0
  | .inbound => 1

/-- Ratio codes. -/
def Ratio.byte : Ratio → Byte
  | .strict => 0
  | .eight => 1
  | .four => 2
  | .two => 3

/-- Share mode codes. -/
def Share.byte : Share → Byte
  | .shared => 0
  | .isolated => 1

/-- Notice reason codes. -/
def Reason.byte : Reason → Byte
  | .pin => 0
  | .lost => 1
  | .cost => 2
  | .fallback => 3
  | .restore => 4
  | .distress => 5
  | .pathGone => 6
  | .deferred => 7

/-- An optional slot: FFh is absent. -/
def optionalSlotByte (p : Option PathSlot) : Byte :=
  match p with
  | none => 0xFF
  | some i => BitVec.ofNat 8 i.val

/-- A counter in 4 bytes. -/
def counterBytes (c : Counter) : List Byte := beBytes 4 c.toNat

/-- A set of paths in 4 bytes. -/
def pathSetBytes (s : FlagSet 32) : List Byte := beBytes 4 s.toNat

/-! ### Record layouts (R17, R82, R113, R129, R154; log 15) -/

/-- The six tuning fields (R16). -/
def Tuning.bytes (t : Tuning) : List Byte :=
  beBytes 4 t.nominal ++ signedBytes t.asymmetry ++ beBytes 1 t.shift ++ beBytes 4 t.spike ++ beBytes 2 t.interval ++ beBytes 1 t.timeout

/-- The weather sub-record: state, window counters, minimum grade, run count (R17). -/
def WeatherRecord.bytes (w : WeatherRecord) : List Byte :=
  [w.state.byte] ++ beBytes 2 w.goodFrames.toNat ++ beBytes 2 w.erroredFrames.toNat ++ beBytes 2 w.goodResults.toNat
    ++ beBytes 2 w.lostSoundings.toNat ++ beBytes 1 w.minGrade.val ++ [w.run]

/-- A path's counters in the order of R20. -/
def PathCounters.bytes (c : PathCounters) : List Byte :=
  counterBytes c.soundingsSent ++ counterBytes c.soundingsDeferred ++ counterBytes c.echoesGood ++ counterBytes c.soundingsLost
    ++ counterBytes c.outliers ++ counterBytes c.reseeds ++ counterBytes c.copiesSent

/-- A path record as PATH-READ returns it (R17). -/
def Path.bytes (p : Path) : List Byte :=
  [p.life.byte] ++ beBytes 1 p.line.val ++ [(mediumOf p.line).byte] ++ beBytes 2 p.tag.toNat ++ p.tuning.bytes ++ [p.est.byte]
    ++ beBytes 4 p.e ++ beBytes 4 p.j ++ beBytes 2 p.age.toNat ++ p.outlierRun.bytes ++ beBytes 1 p.goodCount ++ [flagByte p.trialFailed]
    ++ p.weather.bytes ++ beBytes 2 p.queued ++ counterBytes p.wins ++ p.counters.bytes

/-- An OUTBOUND feed record as FEED-READ returns it (R82, log 15). -/
def OutFields.bytes (o : OutFields) : List Byte :=
  beBytes 1 o.port.val ++ pathSetBytes o.pathSet ++ [if o.twoCopies then 2 else 1] ++ [optionalSlotByte o.pin] ++ beBytes 2 o.rateLimit.toNat
    ++ [o.defaultUrgency.byte, o.ceiling.byte] ++ beBytes 4 o.nextSeq.toNat ++ [optionalSlotByte o.lead] ++ beBytes 2 o.rateCount.toNat
    ++ counterBytes o.counters.accepted ++ counterBytes o.counters.rateDrop ++ counterBytes o.counters.noPath
    ++ counterBytes o.counters.distressed ++ counterBytes o.counters.singleSends ++ counterBytes o.counters.busyDrop0
    ++ counterBytes o.counters.busyDrop1

/-- The seen map's number: the flag of number H - w + 1 at bit 0, that of H at bit w - 1 (R171). -/
def SeqWindow.flagsNumber (x : SeqWindow) (w : Nat) : Nat :=
  (List.range w).foldl (fun a k => if seenFlag w x.seen (x.high - BitVec.ofNat 32 w + 1 + BitVec.ofNat 32 k) then a + 2 ^ k else a) 0

/-- A start mode and its expected sequence, 0 under ADOPT (R129, log 15). -/
def StartMode.bytes : StartMode → List Byte
  | .adopt => [0] ++ beBytes 4 0
  | .expect e => [1] ++ beBytes 4 e.toNat

/-- An INBOUND feed record as FEED-READ returns it (R129, log 15). -/
def InFields.bytes (i : InFields) : List Byte :=
  beBytes 1 i.mask.toNat ++ beBytes 1 i.sizeCode ++ i.start.bytes ++ [flagByte i.window.live] ++ beBytes 4 i.window.high.toNat
    ++ beBytes 1 i.window.tooOldRun
    ++ beBytes (windowSize i.sizeCode / 8) (i.window.flagsNumber (windowSize i.sizeCode))
    ++ counterBytes i.counters.delivered ++ counterBytes i.counters.lost ++ counterBytes i.counters.duplicates
    ++ counterBytes i.counters.lateFills ++ counterBytes i.counters.tooOld ++ counterBytes i.counters.restarts
    ++ counterBytes i.counters.deliveryDrop

/-- A feed record as FEED-READ returns it: direction, number, and the fields of its direction (R82, R129, log 15). -/
def Feed.bytes (f : Feed) : List Byte :=
  [f.direction.byte] ++ beBytes 2 f.number.toNat
    ++ (match f.direction with
        | .outbound => f.out.bytes
        | .inbound => f.inb.bytes)

/-- A line's counters in the order in which R113 names them: its own table, those of R41, those of R75; then those R113 does not name, in R151's order (log 15). -/
def LineCounters.bytes (c : LineCounters) : List Byte :=
  counterBytes c.busyDrop ++ counterBytes c.flushed ++ counterBytes c.rxOff ++ counterBytes c.framesSent
    ++ counterBytes c.stray ++ counterBytes c.badEcho ++ counterBytes c.echoRefused ++ counterBytes c.echoesSent
    ++ counterBytes c.carrierLosses ++ counterBytes c.statusTimeouts ++ counterBytes c.statusDiscarded ++ counterBytes c.noCarrier
    ++ counterBytes c.badHeader ++ counterBytes c.badPayload ++ counterBytes c.unknownFeed

/-- The transmitter's source: 0 control slot, 1 URGENT queue, 2 NORMAL queue, 0 for an IDLE line (R171). -/
def LinePort.sourceByte (p : LinePort) : Byte :=
  match p.tx with
  | some ⟨.traffic .urgent _, _, _, _, _⟩ => 1
  | some ⟨.traffic .normal _, _, _, _, _⟩ => 2
  | _ => 0

/-- A line as LINE-READ returns it: the items of R113 in order, then carrier, grade, and presence or lock (R75, R113, log 15). -/
def State.lineBytes (s : State) (l : Line) : List Byte :=
  let p := s.lines.get l
  [flagByte p.txEnable, flagByte p.rxEnable, p.ratio.byte] ++ beBytes 1 p.ratioCount
    ++ beBytes 2 (p.queue .urgent).length ++ beBytes 2 (p.cells .urgent) ++ beBytes 2 (p.queue .normal).length ++ beBytes 2 (p.cells .normal)
    ++ [flagByte p.tx.isSome, p.sourceByte] ++ beBytes 2 s.freeCells ++ beBytes 2 s.reserveHeld ++ p.counters.bytes
    ++ [flagByte p.carrier] ++ beBytes 1 p.grade.val
    ++ [flagByte (match mediumOf l with
        | .radio => p.presence
        | .fibre => p.lock)]

/-- A local port as LINE-READ returns it (R154, 11.5). -/
def LocalPort.bytes (p : LocalPort) : List Byte :=
  beBytes 1 p.fifo.length ++ counterBytes p.counters.badLength ++ counterBytes p.counters.oversize ++ counterBytes p.counters.unknownFeed
    ++ counterBytes p.counters.wrongPort ++ counterBytes p.counters.deliveryDrop ++ counterBytes p.counters.deliveredFrames

/-- The fourteen settings (R172). -/
def Settings.bytes (x : Settings) : List Byte :=
  beBytes 1 x.trialCount ++ beBytes 4 x.trialTolerance ++ beBytes 2 x.ageLimit ++ beBytes 4 x.marginPenalty ++ beBytes 1 x.jitterFactor
    ++ beBytes 1 x.windowLength ++ beBytes 1 x.fadeThreshold ++ beBytes 1 x.marginalThreshold ++ beBytes 1 x.gradeFloor
    ++ beBytes 1 x.settleWindows ++ beBytes 1 x.recoveryWindows ++ beBytes 4 x.switchMargin ++ [x.share.byte] ++ [flagByte x.reserve]

/-- The microseconds of core clock left until a pending TIME-SET's expiry, whole ones (R134, log 19). -/
def PendingSet.microsLeft (x : PendingSet) (clock : Nat) : Nat := (x.expiry - clock) / Config.ticksPerMicro

/-- What TIME-READ returns (R134, log 15). -/
def State.timeBytes (s : State) : List Byte :=
  beBytes 8 s.tb.time.toNat ++ beBytes 4 s.tb.frac.toNat ++ beBytes 5 s.tb.step.toNat ++ signedBytes s.tb.slew
    ++ (match s.tb.pendingSet with
        | none => [0]
        | some x => [1] ++ beBytes 8 x.value.toNat ++ beBytes 4 (x.microsLeft s.clock))

/-- The member set of a kind number, at its width; none for a kind without one (R157, R171). -/
def NoticeUnit.memberBytes (n : NoticeUnit) (k : Nat) : List Byte :=
  if h : k < 6 then pathSetBytes (n.pathSets.get ⟨k, h⟩)
  else if h : k - 6 < 3 then beBytes 1 (n.lineSets.get ⟨k - 6, h⟩).toNat
  else if h : k - 9 < 2 then beBytes 8 (n.feedSets.get ⟨k - 9, h⟩).toNat
  else []

/-- What EVENT-READ returns: the flags, the eleven member sets, the mask (R156). -/
def NoticeUnit.eventBytes (n : NoticeUnit) : List Byte :=
  beBytes 3 n.flags.toNat ++ (List.range 11).flatMap n.memberBytes ++ beBytes 3 n.mask.toNat

/-- What EVENT-CLEAR returns for each named kind: its flag and its member set as they stood (R157). The layout is the model's choice: kinds in rising order, each with its flag as one
byte before its set (log 15). -/
def NoticeUnit.clearedBytes (n : NoticeUnit) (kinds : FlagSet 17) : List Byte :=
  ((List.range 17).filter fun k => kinds.mem k).flatMap fun k => flagByte (n.flags.mem k) :: n.memberBytes k

/-- A latch: its state, and its record if FULL (R160, log 15). -/
def latchBytes (x : Option Notice) : List Byte :=
  match x with
  | none => [0]
  | some n =>
    [1] ++ beBytes 1 n.feed.val ++ beBytes 2 n.number.toNat ++ [optionalSlotByte n.old, optionalSlotByte n.new, n.reason.byte]
      ++ beBytes 8 n.time.toNat

end Sys2Proof.Machine
end

