-- ==== Sys2Proof/Machine/Port.lean ====
section
/-! DEFINITION. The command port: taking a request, completion, READ-STATUS and READ-RESPONSE (chapter 11), and the outcomes that requests share. -/

namespace Sys2Proof.Machine

/-! ### What a request leaves -/

/-- A request refused: every unit stays as it was (R166, R170). -/
def State.refusing (s : State) (r : Result) : State × Reply := (s, refuse r)

/-- A request of a fixed length whose state check stands in `act`; any other length is MALFORMED (R166). -/
def State.ofLength (s : State) (n : Nat) (body : List Byte) (act : State × Reply) : State × Reply :=
  if body.length = n then act else s.refusing .malformed

/-- A request whose operand form is absent is MALFORMED; else it goes on with what the form spells (R166, R170). -/
def State.parsed {α : Type} (s : State) (form : Option α) (act : α → State × Reply) : State × Reply :=
  match form with
  | none => s.refusing .malformed
  | some x => act x

/-- A path command's lifecycle check: NOT-FOUND for a VACANT slot, WRONG-STATE outside `allowed` (R3). -/
def State.checkPath (s : State) (i : PathSlot) (allowed : Lifecycle → Bool) (act : State × Reply) : State × Reply :=
  if (s.paths.get i).life = .vacant then s.refusing .notFound
  else if allowed (s.paths.get i).life then act
  else s.refusing .wrongState

/-- A path command of one slot byte (R3, 11.5). -/
def State.slotCommand (s : State) (body : List Byte) (allowed : Lifecycle → Bool) (act : PathSlot → State × Reply) : State × Reply :=
  s.ofLength 1 body (s.parsed (indexOf 32 (byteAt body 0)) fun i => s.checkPath i allowed (act i))

/-- An OPEN feed slot, else NOT-FOUND (R80 to R82, R95). -/
def State.checkFeed (s : State) (k : FeedSlot) (act : State × Reply) : State × Reply :=
  if (s.feeds.get k).opened then act else s.refusing .notFound

/-! ### Transactions (R163 to R166) -/

/-- What a request transaction shifts out: the status byte, then 00h (R163). -/
def State.requestMiso (s : State) (body : List Byte) : List Byte := s.statusByte :: List.replicate body.length 0

/-- The command port with the bytes of a whole transaction shifted out. -/
def CommandPort.shifted (c : CommandPort) (bytes : List Byte) : CommandPort := { c with miso := bytes, statusOpen := false }

/-- A request transaction that is not taken: nothing but MISO tells of it (R165). -/
def State.notTaken (s : State) (body : List Byte) : State := s.onCmp (·.shifted (s.requestMiso body))

/-- A request transaction at the moment its checks begin: the buffer is discarded (R165). -/
def State.taken (s : State) (body : List Byte) : State := s.onCmp fun c => { c.shifted (s.requestMiso body) with buffer := none }

/-- The engine WORKING with the response its completion will write (R165, R167). -/
def State.answering (s : State) (code : Byte) (r : Reply) : State :=
  s.onCmp fun c => { c with engine := .working ⟨code, r.result, r.fields⟩ }

/-- A request transaction: taken when the engine is IDLE, else not (R165). -/
def State.request (s : State) (code : Byte) (body : List Byte) (run : State → State × Reply) : State :=
  if s.cmp.engine = .idle then ((run (s.taken body)).1).answering code (run (s.taken body)).2 else s.notTaken body

/-! ### Completion and the two reading transactions (R167 to R169) -/

/-- The completion of the request in work (R167). -/
def State.completeCommand (s : State) : State :=
  match s.cmp.engine with
  | .working r => s.onCmp fun c => { c with engine := .idle, buffer := some r }
  | .idle => s
  | .walking => s
  | .initialising => s
  | .held => s

/-- The bytes of a response from the second byte of READ-RESPONSE on (R168). -/
def Response.bytes (r : Response) : List Byte := [r.code, r.result.byte] ++ beBytes 2 r.fields.length ++ r.fields

/-- The response READ-RESPONSE returns: the waiting one, or NOTHING (R168). -/
def CommandPort.response (c : CommandPort) : Response := c.buffer.getD ⟨0x01, .nothing, []⟩

/-- The first `n` of the bytes, with 00h beyond their end (R168). -/
def clockedOut (n : Nat) (bytes : List Byte) : List Byte := bytes.take n ++ List.replicate (n - bytes.length) 0

/-- READ-RESPONSE with `n` bytes clocked after the first: while RESET_N is low the port takes no transaction (R168, R176). -/
def State.readResponse (s : State) (n : Nat) : State :=
  if s.cmp.engine = .held then s.onCmp (·.shifted (List.replicate (n + 1) 0))
  else s.onCmp fun c => { c.shifted (s.statusByte :: clockedOut n c.response.bytes) with buffer := none }

/-- One byte of READ-STATUS: a further byte of an open transaction, or the first of a new one (R169, log 4). -/
def State.readStatus (s : State) (further : Bool) : State :=
  s.onCmp fun c => { c with miso := if further && c.statusOpen then c.miso ++ [s.statusByte] else [s.statusByte], statusOpen := true }

end Sys2Proof.Machine
end

