-- ==== Sys2Proof/Machine/FeedCommands.lean ====
section
/-! DEFINITION. The feed commands, codes 20h to 26h (chapters 5 and 7). -/

namespace Sys2Proof.Machine

/-! ### FEED-OPEN (R78, R79) -/

/-- The slot FEED-OPEN takes, or its refusal (R78, steps 2 and 3). -/
def State.slotForFeed (s : State) (direction : Direction) (number : BitVec 16) (choice : SlotChoice 64) : Except Result FeedSlot :=
  if (s.findFeed direction number).isSome then .error .inUse
  else
    match choice with
    | .named k => if (s.feeds.get k).opened then .error .inUse else .ok k
    | .any =>
      match s.feeds.lowest (fun _ f => !f.opened) with
      | none => .error .noSlot
      | some k => .ok k

/-- The path set and pin that a request for them keeps: members outside TRIAL, IN SERVICE and HELD are dropped, then a pin outside the set (R79). -/
def State.cleaned (s : State) (set : FlagSet 32) (pin : Option PathSlot) : FlagSet 32 × Option PathSlot :=
  (s.livePaths set, keepMember (s.livePaths set) pin)

/-- The OUTBOUND feed that a taken FEED-OPEN makes (R79). -/
def State.openedOut (s : State) (r : OpenOutRequest) : Feed :=
  { Feed.closed with
    opened := true
    direction := .outbound
    number := r.number
    out := { OutFields.closed with
      port := r.port
      pathSet := (s.cleaned r.pathSet r.pin).1
      twoCopies := r.twoCopies
      pin := (s.cleaned r.pathSet r.pin).2
      rateLimit := r.rateLimit
      defaultUrgency := r.defaultUrgency
      ceiling := r.ceiling
      nextSeq := r.startSeq } }

/-- FEED-OPEN, OUTBOUND, with its fields spelled (R78, R79). -/
def State.openOut (s : State) (r : OpenOutRequest) : State × Reply :=
  match s.slotForFeed .outbound r.number r.slot with
  | .error e => s.refusing e
  | .ok k =>
    let f := s.openedOut r
    (s.onFeed k fun _ => f,
      doneOr (f.out.pathSet ≠ r.pathSet || f.out.pin ≠ r.pin) (beBytes 1 k.val ++ pathSetBytes f.out.pathSet ++ [optionalSlotByte f.out.pin]))

/-- The INBOUND feed that a taken FEED-OPEN makes (R79, R116). -/
def OpenInRequest.feed (r : OpenInRequest) : Feed :=
  { Feed.closed with
    opened := true
    direction := .inbound
    number := r.number
    inb := { InFields.closed with mask := r.mask, sizeCode := r.sizeCode, start := r.start } }

/-- FEED-OPEN, INBOUND, with its fields spelled (R78, R79). -/
def State.openIn (s : State) (r : OpenInRequest) : State × Reply :=
  match s.slotForFeed .inbound r.number r.slot with
  | .error e => s.refusing e
  | .ok k => (s.onFeed k fun _ => r.feed, done (beBytes 1 k.val))

/-- The direction byte of FEED-OPEN and FEED-SET; none when the request ends before it or holds neither 0 nor 1 (R166). -/
def directionByte (body : List Byte) : Option Direction := if 2 ≤ body.length then directionOf (byteAt body 1) else none

/-- FEED-OPEN (R78, R79, R166). -/
def State.feedOpen (s : State) (body : List Byte) : State × Reply :=
  match directionByte body with
  | none => s.refusing .malformed
  | some .outbound => s.parsed (parseOpenOut body) s.openOut
  | some .inbound => s.parsed (parseOpenIn body) s.openIn

/-- FEED_OPEN (R78, R79). -/
def execFeedOpen (body : List Byte) (s : State) : Host.Outcome State Fault Refusal := .next (s.request 0x20 body (·.feedOpen body))

/-! ### FEED-SET (R80) -/

/-- The checks of FEED-SET after its encoding: NOT-FOUND for a CLOSED slot, MALFORMED for the other direction (R80). -/
def State.checkDirection (s : State) (k : FeedSlot) (direction : Direction) (act : State × Reply) : State × Reply :=
  if !(s.feeds.get k).opened then s.refusing .notFound
  else if (s.feeds.get k).direction = direction then act
  else s.refusing .malformed

/-- The path set FEED-SET leaves: a new one cleaned, or the one that stood (R80). -/
def State.setPaths (s : State) (o : OutFields) (r : SetOutRequest) : FlagSet 32 := (r.pathSet.map s.livePaths).getD o.pathSet

/-- The OUTBOUND fields FEED-SET leaves, the lead apart (R80). -/
def State.setOut (s : State) (o : OutFields) (r : SetOutRequest) : OutFields :=
  { o with
    pathSet := s.setPaths o r
    twoCopies := r.twoCopies.getD o.twoCopies
    pin := keepMember (s.setPaths o r) (r.pin.getD o.pin)
    rateLimit := r.rateLimit.getD o.rateLimit
    defaultUrgency := r.defaultUrgency.getD o.defaultUrgency
    ceiling := r.ceiling.getD o.ceiling }

/-- Whether FEED-SET dropped a member of a new set, or a pin (R80). -/
def State.setDropped (s : State) (o : OutFields) (r : SetOutRequest) : Bool :=
  r.pathSet.any (fun set => s.livePaths set ≠ set) || (s.setOut o r).pin ≠ r.pin.getD o.pin

/-- A lead outside the path set becomes absent, with a route notice PATH GONE (R80, R91). -/
def State.dropLead (s : State) (k : FeedSlot) : State :=
  match (s.feeds.get k).out.lead with
  | none => s
  | some l => if (s.feeds.get k).out.pathSet.mem l.val then s else s.setLead k none .pathGone

/-- What FEED-SET answers: path set, pin and lead as kept (R80, 11.5). -/
def OutFields.setReply (o : OutFields) : List Byte := pathSetBytes o.pathSet ++ [optionalSlotByte o.pin, optionalSlotByte o.lead]

/-- FEED-SET, OUTBOUND, on an OPEN feed of that direction (R80). -/
def State.applySetOut (s : State) (k : FeedSlot) (r : SetOutRequest) : State × Reply :=
  let o := (s.feeds.get k).out
  let s1 := (s.onOut k fun o => s.setOut o r).dropLead k
  (s1, doneOr (s.setDropped o r) (s1.feeds.get k).out.setReply)

/-- FEED-SET, INBOUND, on an OPEN feed of that direction (R80). -/
def State.applySetIn (s : State) (k : FeedSlot) (mask : FlagSet 4) : State × Reply :=
  (s.onInb k fun i => { i with mask := mask }, done (beBytes 1 mask.toNat))

/-- FEED-SET (R80, R166). -/
def State.feedSet (s : State) (body : List Byte) : State × Reply :=
  match directionByte body with
  | none => s.refusing .malformed
  | some .outbound => s.parsed (parseSetOut body) fun x => s.checkDirection x.1 .outbound (s.applySetOut x.1 x.2)
  | some .inbound => s.parsed (parseSetIn body) fun x => s.checkDirection x.1 .inbound (s.applySetIn x.1 x.2)

/-- FEED_SET (R80). -/
def execFeedSet (body : List Byte) (s : State) : Host.Outcome State Fault Refusal := .next (s.request 0x21 body (·.feedSet body))

/-! ### FEED-CLOSE, FEED-READ, FEED-FIND, FEED-SCAN (R81 to R83) -/

/-- The slot returns to the closed record and leaves the route-notice pending set (R81, R161). -/
def State.closeFeed (s : State) (k : FeedSlot) : State :=
  (s.onFeed k fun _ => .closed).onNu fun n => { n with queued := n.queued.erase k.val }

/-- FEED-CLOSE (R81). -/
def State.feedClose (s : State) (body : List Byte) : State × Reply :=
  s.ofLength 1 body (s.parsed (indexOf 64 (byteAt body 0)) fun k => s.checkFeed k (s.closeFeed k, done []))

/-- FEED_CLOSE (R81). -/
def execFeedClose (body : List Byte) (s : State) : Host.Outcome State Fault Refusal := .next (s.request 0x22 body (·.feedClose body))

/-- A feed with its counters at 0 (R82, R129). -/
def Feed.zeroCounters (f : Feed) : Feed := { f with out := { f.out with counters := .zero }, inb := { f.inb with counters := .zero } }

/-- FEED-READ (R82, R129). -/
def State.feedRead (s : State) (body : List Byte) : State × Reply :=
  s.ofLength 2 body (s.parsed (indexOf 64 (byteAt body 0)) fun k =>
    (if clearOption (byteAt body 1) then s.onFeed k Feed.zeroCounters else s, done (s.feeds.get k).bytes))

/-- FEED_READ (R82). -/
def execFeedRead (body : List Byte) (s : State) : Host.Outcome State Fault Refusal := .next (s.request 0x23 body (·.feedRead body))

/-- FEED-FIND with its fields spelled (R82). -/
def State.lookFeed (s : State) (direction : Direction) (number : BitVec 16) : State × Reply :=
  match s.findFeed direction number with
  | none => s.refusing .notFound
  | some k => (s, done (beBytes 1 k.val))

/-- FEED-FIND (R82). -/
def State.feedFind (s : State) (body : List Byte) : State × Reply :=
  s.ofLength 3 body (s.parsed (directionOf (byteAt body 0)) fun d => s.parsed (feedNumberOf (field body 1 2)) fun n => s.lookFeed d n)

/-- FEED_FIND (R82). -/
def execFeedFind (body : List Byte) (s : State) : Host.Outcome State Fault Refusal := .next (s.request 0x24 body (·.feedFind body))

/-- The first OPEN slot at or after a cursor (R83). -/
def State.openAfter (s : State) (cursor : Fin 64) : Option FeedSlot := s.feeds.lowest fun k f => f.opened && cursor ≤ k

/-- The cursor after a scan that returns slot `k`: `k` + 1, held at 63 (R83). -/
def nextCursor (k : FeedSlot) : Fin 64 := ⟨min (k.val + 1) 63, by omega⟩

/-- FEED-SCAN from a cursor (R83). -/
def State.scanFrom (s : State) (cursor : Fin 64) : State × Reply :=
  match s.openAfter cursor with
  | none => ({ s with scanCursor := 63 }, refuse .notFound)
  | some k =>
    ({ s with scanCursor := nextCursor k },
      done (beBytes 1 k.val ++ [(s.feeds.get k).direction.byte] ++ beBytes 2 (s.feeds.get k).number.toNat))

/-- FEED-SCAN: option bit 1 restarts the cursor at 0 (R83, R171). -/
def State.feedScan (s : State) (body : List Byte) : State × Reply :=
  s.ofLength 1 body (s.scanFrom (if (byteAt body 0).testBit 1 then 0 else s.scanCursor))

/-- FEED_SCAN (R83). -/
def execFeedScan (body : List Byte) (s : State) : Host.Outcome State Fault Refusal := .next (s.request 0x25 body (·.feedScan body))

/-! ### RANK-READ (R95) -/

/-- The eligible paths of a feed in increasing order of NORMAL cost (R95). -/
def State.ranking (s : State) (o : OutFields) : List PathSlot := ranked (s.cost .normal) (s.eligiblePaths o.pathSet)

/-- What RANK-READ answers: the count, each path's slot and cost, the lead and the pin (R95). -/
def State.rankBytes (s : State) (o : OutFields) : List Byte :=
  beBytes 1 (s.ranking o).length ++ (s.ranking o).flatMap (fun i => beBytes 1 i.val ++ beBytes 4 (s.cost .normal i))
    ++ [optionalSlotByte o.lead, optionalSlotByte o.pin]

/-- RANK-READ with its slot spelled (R95). -/
def State.rankOf (s : State) (k : FeedSlot) : State × Reply :=
  s.checkFeed k
    (match (s.feeds.get k).direction with
      | .outbound => (s, done (s.rankBytes (s.feeds.get k).out))
      | .inbound => s.refusing .wrongState)

/-- RANK-READ (R95). -/
def State.rankRead (s : State) (body : List Byte) : State × Reply :=
  s.ofLength 2 body (s.parsed (indexOf 64 (byteAt body 0)) s.rankOf)

/-- RANK_READ (R95). -/
def execRankRead (body : List Byte) (s : State) : Host.Outcome State Fault Refusal := .next (s.request 0x26 body (·.rankRead body))

end Sys2Proof.Machine
end

