-- ==== Sys2Proof/Machine/FrameEvents.lean ====
section
/-! DEFINITION. The meanings of the frame events: arrivals on lines and local ports, completions and ends of sending. A line frame is judged from its bytes, whatever row it is sent
as (R148, log 18). -/

namespace Sys2Proof.Machine

/-- FEED_FRAME (R149). -/
def execFeedFrame (line : Line) (arrival : Arrival) (bytes : List Byte) (s : State) : Host.Outcome State Fault Refusal :=
  .next (s.lineArrives line arrival bytes)

/-- SOUND_FRAME (R37). -/
def execSoundFrame (line : Line) (arrival : Arrival) (bytes : List Byte) (s : State) : Host.Outcome State Fault Refusal :=
  .next (s.lineArrives line arrival bytes)

/-- ECHO_FRAME (R32). -/
def execEchoFrame (line : Line) (arrival : Arrival) (bytes : List Byte) (s : State) : Host.Outcome State Fault Refusal :=
  .next (s.lineArrives line arrival bytes)

/-- MODEM_STATUS_FRAME (R60). -/
def execModemStatusFrame (line : Line) (arrival : Arrival) (bytes : List Byte) (s : State) : Host.Outcome State Fault Refusal :=
  .next (s.lineArrives line arrival bytes)

/-- BAD_KIND_FRAME (R148). -/
def execBadKindFrame (line : Line) (arrival : Arrival) (bytes : List Byte) (s : State) : Host.Outcome State Fault Refusal :=
  .next (s.lineArrives line arrival bytes)

/-- LOCAL_FRAME (R84, R152). -/
def execLocalFrame (port : Port) (arrival : Arrival) (bytes : List Byte) (s : State) : Host.Outcome State Fault Refusal :=
  .next (s.localArrives port arrival bytes)

/-- FRAME_COMPLETION (R108). -/
def execFrameCompletion (line : Line) (s : State) : Host.Outcome State Fault Refusal := .next (s.frameCompletion line)

/-- LOCAL_SEND_END (R126). -/
def execLocalSendEnd (port : Port) (s : State) : Host.Outcome State Fault Refusal := .next (s.localSendEnd port)

end Sys2Proof.Machine
end

