-- ==== Sys2Proof/Machine/NoticeCommands.lean ====
section
/-! DEFINITION. The event and notice commands, codes 50h to 54h (chapter 10). -/

namespace Sys2Proof.Machine

/-- EVENT-READ; its option byte has nothing to clear (R156). -/
def State.eventRead (s : State) (body : List Byte) : State × Reply := s.ofLength 1 body (s, done s.nu.eventBytes)

/-- EVENT_READ (R156). -/
def execEventRead (body : List Byte) (s : State) : Host.Outcome State Fault Refusal := .next (s.request 0x50 body (·.eventRead body))

/-- A set of event kinds, or of enables, of `n` bits; a bit beyond them is MALFORMED (R157, R171). -/
def kindSetOf (n v : Nat) : Option (FlagSet n) := if v < 2 ^ n then some (BitVec.ofNat n v) else none

/-- EVENT-CLEAR with its field spelled (R157). -/
def State.clearEvents (s : State) (kinds : FlagSet 17) : State × Reply :=
  (s.onNu (·.clearKinds kinds), done (s.nu.clearedBytes kinds))

/-- EVENT-CLEAR (R157). -/
def State.eventClear (s : State) (body : List Byte) : State × Reply :=
  s.ofLength 3 body (s.parsed (kindSetOf 17 (field body 0 3)) s.clearEvents)

/-- EVENT_CLEAR (R157). -/
def execEventClear (body : List Byte) (s : State) : Host.Outcome State Fault Refusal := .next (s.request 0x51 body (·.eventClear body))

/-- EVENT-MASK with its field spelled: all 18 enables at once (R158). -/
def State.writeMask (s : State) (mask : FlagSet 18) : State × Reply := (s.onNu fun n => { n with mask := mask }, done [])

/-- EVENT-MASK (R158). -/
def State.eventMask (s : State) (body : List Byte) : State × Reply :=
  s.ofLength 3 body (s.parsed (kindSetOf 18 (field body 0 3)) s.writeMask)

/-- EVENT_MASK (R158). -/
def execEventMask (body : List Byte) (s : State) : Host.Outcome State Fault Refusal := .next (s.request 0x52 body (·.eventMask body))

/-- NOTICE-READ: the latch, and the pending set as a set of feed slots; its option byte has nothing to clear (R160, R171). -/
def State.noticeRead (s : State) (body : List Byte) : State × Reply :=
  s.ofLength 1 body (s, done (latchBytes s.nu.latch ++ beBytes 8 s.nu.queued.toNat))

/-- NOTICE_READ (R160). -/
def execNoticeRead (body : List Byte) (s : State) : Host.Outcome State Fault Refusal := .next (s.request 0x53 body (·.noticeRead body))

/-- NOTICE-CLEAR: the record removed, and the latch after (R160). The layout is the model's choice: the record removed stands behind a state byte as in the latch, 01h, or is a single
00h when the latch was EMPTY (log 15). -/
def State.noticeClear (s : State) (body : List Byte) : State × Reply :=
  s.ofLength 0 body (s.clearNotice, done (latchBytes s.nu.latch ++ latchBytes s.clearNotice.nu.latch))

/-- NOTICE_CLEAR (R160). -/
def execNoticeClear (body : List Byte) (s : State) : Host.Outcome State Fault Refusal := .next (s.request 0x54 body (·.noticeClear body))

end Sys2Proof.Machine
end

