-- ==== Sys2Proof/Machine/PathCommands.lean ====
section
/-! DEFINITION. The path commands, codes 10h to 17h (chapter 1). -/

namespace Sys2Proof.Machine

/-! ### PATH-ADD (R4, R5) -/

/-- The slot PATH-ADD takes, or its refusal (R4, step 3). -/
def State.slotForPath (s : State) (choice : SlotChoice 32) : Except Result PathSlot :=
  match choice with
  | .named i => if (s.paths.get i).life = .vacant then .ok i else .error .inUse
  | .any =>
    match s.paths.lowest (fun _ p => p.life = .vacant) with
    | none => .error .noSlot
    | some i => .ok i

/-- The record of a path at its entry to TRIAL (R5). -/
def Path.added (line : Line) (tag : BitVec 12) (tuning : Tuning) (grade : Fin 8) : Path :=
  { Path.vacant with life := .trial, line := line, tag := tag, tuning := tuning, weather := .fresh grade }

/-- A path slot's schedule at entry: due at once, not fallen due and not waiting (R5, R25). -/
def SoundingUnit.enter (u : SoundingUnit) (i : PathSlot) (micros : Nat) : SoundingUnit :=
  { u with nextDue := u.nextDue.set i (some micros), due := u.due.erase i.val, waiting := u.waiting.erase i.val }

/-- A new path in slot `i` (R5). -/
def State.addPath (s : State) (i : PathSlot) (r : PathAddRequest) : State :=
  let grade := (s.lines.get r.line).grade
  let tuning := r.tuning.kept .defaults
  (s.onPath i fun _ => Path.added r.line r.tag tuning grade).onSu (·.enter i s.micros)

/-- PATH-ADD with its fields spelled (R4). -/
def State.pathAdd (s : State) (r : PathAddRequest) : State × Reply :=
  if (s.findPath r.line r.tag).isSome then s.refusing .inUse
  else
    match s.slotForPath r.slot with
    | .error e => s.refusing e
    | .ok i => (s.addPath i r, doneOr r.tuning.adjusted (beBytes 1 i.val))

/-- PATH_ADD (R4). -/
def execPathAdd (body : List Byte) (s : State) : Host.Outcome State Fault Refusal :=
  .next (s.request 0x10 body fun s => s.parsed (parsePathAdd body) s.pathAdd)

/-! ### PATH-SET (R16) -/

/-- The tuning fields of path `i` after a PATH-SET. -/
def State.tunePath (s : State) (i : PathSlot) (r : TuningRequest) : State := s.onPath i fun p => { p with tuning := r.kept p.tuning }

/-- The lifecycles from which PATH-SET and PATH-RETIRE are taken (R3). -/
def Lifecycle.active (l : Lifecycle) : Bool := l = .trial || l = .inService || l = .held

/-- PATH-SET with its fields spelled (R16). -/
def State.pathSet (s : State) (i : PathSlot) (r : TuningRequest) : State × Reply :=
  s.checkPath i Lifecycle.active (s.tunePath i r, doneOr r.adjusted (r.kept (s.paths.get i).tuning).bytes)

/-- PATH_SET (R16). -/
def execPathSet (body : List Byte) (s : State) : Host.Outcome State Fault Refusal :=
  .next (s.request 0x11 body fun s => s.parsed (parsePathSet body) fun x => s.pathSet x.1 x.2)

/-! ### PATH-HOLD, PATH-RELEASE, PATH-REQUALIFY (R8, R9, R11) -/

/-- PATH-HOLD (R8). -/
def State.pathHold (s : State) (body : List Byte) : State × Reply :=
  s.slotCommand body (· = .inService) fun i => (s.onPath i fun p => { p with life := .held }, done [])

/-- PATH_HOLD (R8). -/
def execPathHold (body : List Byte) (s : State) : Host.Outcome State Fault Refusal := .next (s.request 0x12 body (·.pathHold body))

/-- PATH-RELEASE (R9). -/
def State.pathRelease (s : State) (body : List Byte) : State × Reply :=
  s.slotCommand body (· = .held) fun i => (s.onPath i fun p => { p with life := .inService }, done [])

/-- PATH_RELEASE (R9). -/
def execPathRelease (body : List Byte) (s : State) : Host.Outcome State Fault Refusal := .next (s.request 0x13 body (·.pathRelease body))

/-- A path at its return to TRIAL (R11). The trial failed flag, clear outside TRIAL, stays clear. -/
def Path.requalified (p : Path) : Path :=
  { p with life := .trial, est := .empty, e := 0, j := 0, age := 0, outlierRun := .none, goodCount := 0, trialFailed := false }

/-- PATH-REQUALIFY (R11). -/
def State.pathRequalify (s : State) (body : List Byte) : State × Reply :=
  s.slotCommand body (fun l => l = .inService || l = .held) fun i => (s.onPath i Path.requalified, done [])

/-- PATH_REQUALIFY (R11). -/
def execPathRequalify (body : List Byte) (s : State) : Host.Outcome State Fault Refusal :=
  .next (s.request 0x14 body (·.pathRequalify body))

/-! ### PATH-RETIRE (R12, R13) -/

/-- The schedule without path `i` (R12, R25, R28). -/
def SoundingUnit.dropPath (u : SoundingUnit) (i : PathSlot) : SoundingUnit :=
  { u with nextDue := u.nextDue.set i none, due := u.due.erase i.val, waiting := u.waiting.erase i.val }

/-- Entry to WITHDRAWING, and at once to VACANT when nothing is queued (R12, R13, R15). The freed contexts are handed on last (R28, log 26). -/
def State.retire (s : State) (i : PathSlot) : State :=
  let s := (s.voidContexts fun c => c.path = i).onSu (·.dropPath i)
  let s := s.forgetPath i
  let s := s.onPath i fun p => { p with life := .withdrawing }
  let s := if (s.paths.get i).queued = 0 then s.withdraw i else s
  s.serve

/-- PATH-RETIRE (R12). -/
def State.pathRetire (s : State) (body : List Byte) : State × Reply :=
  s.slotCommand body Lifecycle.active fun i => (s.retire i, done [])

/-- PATH_RETIRE (R12). -/
def execPathRetire (body : List Byte) (s : State) : Host.Outcome State Fault Refusal := .next (s.request 0x15 body (·.pathRetire body))

/-! ### PATH-READ, PATH-FIND (R17, R18) -/

/-- A path with its counters and win count at 0 (R17). -/
def Path.zeroCounters (p : Path) : Path := { p with counters := .zero, wins := 0 }

/-- PATH-READ (R17). -/
def State.pathRead (s : State) (body : List Byte) : State × Reply :=
  s.ofLength 2 body (s.parsed (indexOf 32 (byteAt body 0)) fun i =>
    (if clearOption (byteAt body 1) then s.onPath i Path.zeroCounters else s, done (s.paths.get i).bytes))

/-- PATH_READ (R17). -/
def execPathRead (body : List Byte) (s : State) : Host.Outcome State Fault Refusal := .next (s.request 0x16 body (·.pathRead body))

/-- PATH-FIND with its fields spelled (R18). -/
def State.lookPath (s : State) (line : Line) (tag : BitVec 12) : State × Reply :=
  match s.findPath line tag with
  | none => s.refusing .notFound
  | some i => (s, done (beBytes 1 i.val ++ [(s.paths.get i).life.byte]))

/-- PATH-FIND (R18). -/
def State.pathFind (s : State) (body : List Byte) : State × Reply :=
  s.ofLength 3 body (s.parsed (indexOf 6 (byteAt body 0)) fun line => s.parsed (tagOf (field body 1 2)) fun tag => s.lookPath line tag)

/-- PATH_FIND (R18). -/
def execPathFind (body : List Byte) (s : State) : Host.Outcome State Fault Refusal := .next (s.request 0x17 body (·.pathFind body))

end Sys2Proof.Machine
end

