-- ==== Sys2Proof/Machine/PinEvents.lean ====
section
/-! DEFINITION. The meanings of pin changes: modem presence and fibre lock (R62, R63). During RESETTING a change only moves the pin (R76, R176). -/

namespace Sys2Proof.Machine

/-- The level of PRESENT_N as last driven, true for a modem present. -/
def State.pinPresent (s : State) (l : RadioLine) : Bool := s.presentPin.mem l.val

/-- The lock as last reported by the transceiver. -/
def State.pinLocked (s : State) (l : FibreLine) : Bool := s.lockPin.mem l.val

/-- PRESENT_N goes inactive (R62). -/
def State.presentGone (s : State) (l : RadioLine) : State :=
  if s.pinPresent l then
    let s1 := { s with presentPin := s.presentPin.erase l.val }
    if s.resetting then s1 else s1.removeModem l
  else s

/-- PRESENT_N goes active (R62). -/
def State.presentCome (s : State) (l : RadioLine) : State :=
  if s.pinPresent l then s
  else
    let s1 := { s with presentPin := s.presentPin.insert l.val }
    if s.resetting then s1 else s1.fitModem l

/-- A transceiver gains lock (R63). -/
def State.lockCome (s : State) (l : FibreLine) : State :=
  if s.pinLocked l then s
  else
    let s1 := { s with lockPin := s.lockPin.insert l.val }
    if s.resetting then s1 else s1.gainLock l

/-- A transceiver loses lock (R63). -/
def State.lockGone (s : State) (l : FibreLine) : State :=
  if s.pinLocked l then
    let s1 := { s with lockPin := s.lockPin.erase l.val }
    if s.resetting then s1 else s1.loseLock l
  else s

/-- PRESENT_N_INACTIVE (R62). -/
def execPresentNInactive (line : RadioLine) (s : State) : Host.Outcome State Fault Refusal := .next (s.presentGone line)

/-- PRESENT_N_ACTIVE (R62). -/
def execPresentNActive (line : RadioLine) (s : State) : Host.Outcome State Fault Refusal := .next (s.presentCome line)

/-- LOCK_GAINED (R63). -/
def execLockGained (line : FibreLine) (s : State) : Host.Outcome State Fault Refusal := .next (s.lockCome line)

/-- LOCK_LOST (R63). -/
def execLockLost (line : FibreLine) (s : State) : Host.Outcome State Fault Refusal := .next (s.lockGone line)

end Sys2Proof.Machine
end

