-- ==== Sys2Proof/Machine/ResetCommands.lean ====
section
/-! DEFINITION. SOFT-RESET with its walk and its end, and hardware reset with its initialisation (11.6, 11.7, and each chapter's reset rule). -/

namespace Sys2Proof.Machine

/-! ### The walk (R22, R42, R76, R97, R114, R130, R162, R174; log 11) -/

/-- A path slot after the walk; `grade` is its line's (R22, R76). -/
def Path.walked (grade : Fin 8) (p : Path) : Path :=
  if p.measured then { Path.vacant with life := p.life, line := p.line, tag := p.tag, tuning := p.tuning, weather := .fresh grade }
  else .vacant

/-- A line at the start of the walk: its status timer is idle, and its transmitter stops with a frame in transmission cut off (R174). -/
def LinePort.stopped (p : LinePort) : LinePort := { p with timer := none, tx := none }

/-- A line after the walk: settings, grade, presence and lock stay; everything else is as after a hardware reset (R40, R42, R76, R114). A frame in transmission, a SOUND too, is
already cut off at the start of the walk (R174, log 32). -/
def LinePort.walked (p : LinePort) : LinePort :=
  { LinePort.reset with tx := p.tx, timer := p.timer, grade := p.grade, presence := p.presence, lock := p.lock, txEnable := p.txEnable, rxEnable := p.rxEnable, ratio := p.ratio }

/-- An OUTBOUND feed's fields after the walk (R97). -/
def OutFields.walked (o : OutFields) : OutFields := { o with lead := none, rateCount := 0, counters := .zero }

/-- An INBOUND feed's fields after the walk (R97, R130). -/
def InFields.walked (i : InFields) : InFields := { i with window := .empty, counters := .zero }

/-- A feed slot after the walk (R97). -/
def Feed.walked (f : Feed) : Feed := if f.opened then { f with out := f.out.walked, inb := f.inb.walked } else f

/-- The schedule without due or waiting paths: the waiting list is emptied before the contexts are freed (R42), and the due times are kept until the end of the walk. -/
def SoundingUnit.unscheduled (u : SoundingUnit) : SoundingUnit := { u with due := .empty 32, waiting := .empty 32 }

/-- The start of the walk: NU and the transmit FIFOs are emptied, the status timers and the window timer stop, and every line transmitter stops (R130, R162, R174). -/
def State.stopForWalk (s : State) : State :=
  { s with
    nu := .clear s.nu.mask
    ports := s.ports.map fun p => { p with fifo := [] }
    lines := s.lines.map LinePort.stopped
    window := none }

/-- The units' walk, after its start: SU empties the waiting list and frees all contexts as VOID, none of whose SOUNDs is still in transmission (R36, R42, log 32); then every unit is
returned to its SOFT-RESET values. The time base, the settings, the class map, the pins and the clock run on (R143, R174). -/
def State.walk (s : State) : State :=
  let s := (s.onSu SoundingUnit.unscheduled).voidContexts fun _ => true
  { s with
    paths := s.paths.map fun p => p.walked (s.lines.get p.line).grade
    lines := s.lines.map LinePort.walked
    freeCells := Config.poolCells
    feeds := s.feeds.map Feed.walked
    scanCursor := 0
    ports := .replicate 4 ⟨[], .zero⟩ }

/-- SOFT-RESET taken with its one byte: the engine goes from WORKING to RESETTING, and the walk begins and is made (R174, log 11). -/
def State.startWalk (s : State) : State := (s.taken []).stopForWalk.walk.onCmp fun c => { c with engine := .walking }

/-- SOFT-RESET: any other length is answered MALFORMED without a walk (R175). -/
def State.softReset (s : State) (body : List Byte) : State :=
  if s.cmp.engine = .idle && body.isEmpty then s.startWalk else s.request 0x03 body (·.refusing .malformed)

/-- SOFT_RESET (R174). -/
def execSoftReset (body : List Byte) (s : State) : Host.Outcome State Fault Refusal := .next (s.softReset body)

/-! ### The end of the walk (R42, R76, R174; log 12) -/

/-- The schedule at the end of the walk: every measured path is due at once (R25, R42). -/
def SoundingUnit.allDue (u : SoundingUnit) (measured : PathSlot → Bool) (micros : Nat) : SoundingUnit :=
  { u with
    nextDue := u.nextDue.mapIdx fun i t => if measured i then some micros else t
    due := .ofPred measured }

/-- A held presence change is taken: the pin is compared with the presence kept (R76). -/
def State.settlePresence (s : State) (l : RadioLine) : State :=
  match s.presentPin.mem l.val, (s.lines.get (radioLine l)).presence with
  | true, false => s.fitModem l
  | false, true => s.removeModem l
  | true, true => s
  | false, false => s

/-- A held lock change is taken: the transceiver's lock is compared with the lock kept (R76). -/
def State.settleLock (s : State) (l : FibreLine) : State :=
  match s.lockPin.mem l.val, (s.lines.get (fibreLine l)).lock with
  | true, false => s.gainLock l
  | false, true => s.loseLock l
  | true, true => s
  | false, false => s

/-- A line's status timer at the end of the walk: armed afresh on a radio line with carrier PRESENT, else idle (R76, R174). -/
def LinePort.rearm (clock : Nat) (l : Line) (p : LinePort) : LinePort :=
  { p with timer := if (radioOf l).isSome && p.carrier then some (clock + Config.statusTimerTicks) else none }

/-- The timers at the end of the walk: status timers armed, the window timer restarted (R76, R174). -/
def State.restartTimers (s : State) : State :=
  { s with
    lines := s.lines.mapIdx (LinePort.rearm s.clock)
    window := some ⟨0, s.settings.windowLength⟩ }

/-- The units at the end of the walk, once the lanes and SU run again (R174). -/
def State.wake (s : State) : State :=
  let s := (s.onSu (·.allDue (fun i => (s.paths.get i).measured) s.micros)).serve
  let s := (List.finRange 4).foldl State.settlePresence s
  let s := (List.finRange 2).foldl State.settleLock s
  s.restartTimers

/-- The end of the walk; it comes only while the walk runs (R174). -/
def State.endWalk (s : State) : State :=
  if s.cmp.engine = .walking then
    ((s.onCmp fun c => { c with engine := .idle }).wake.raisePlain .softResetDone).onCmp fun c =>
      { c with buffer := some ⟨0x03, .done, []⟩ }
  else s

/-- END_OF_WALK (R174). -/
def execEndOfWalk (s : State) : Host.Outcome State Fault Refusal := .next s.endWalk

/-! ### Hardware reset (R176, log 17) -/

/-- RESET_N goes low, or rises and initialisation begins. What was sent of an open transaction is abandoned: whatever it was, no request of it is taken (R163). -/
def State.resetPin (s : State) (level : ResetLevel) : State :=
  match level with
  | .low _ => .hardware .held s.presentPin s.lockPin s.pending
  | .high => if s.cmp.engine = .held then .hardware .initialising s.presentPin s.lockPin s.pending else s

/-- HARDWARE_RESET (R176). -/
def execHardwareReset (level : ResetLevel) (s : State) : Host.Outcome State Fault Refusal := .next (s.resetPin level)

/-- A line's presence or lock as sampled at the end of reset; a LOCKED fibre line is PRESENT at grade 7 (R76). -/
def LinePort.sampled (presentPin : FlagSet 4) (lockPin : FlagSet 2) (l : Line) (p : LinePort) : LinePort :=
  match mediumOf l with
  | .radio => { p with presence := presentPin.mem l.val }
  | .fibre => { p with lock := lockPin.mem (l.val - 4), grade := if lockPin.mem (l.val - 4) then 7 else 0 }

/-- The end of initialisation, which comes only while initialisation runs: pins sampled, the window timer started, the engine IDLE (R76, R176). -/
def State.endInitialisation (s : State) : State :=
  if s.cmp.engine = .initialising then
    { s with
      lines := s.lines.mapIdx (LinePort.sampled s.presentPin s.lockPin)
      window := some ⟨0, s.settings.windowLength⟩
      cmp := { s.cmp with engine := .idle } }
  else s

/-- INITIALISATION_END (R176). -/
def execInitialisationEnd (s : State) : Host.Outcome State Fault Refusal := .next s.endInitialisation

end Sys2Proof.Machine
end

