-- ==== Sys2Proof/Machine/SystemCommands.lean ====
section
/-! DEFINITION. Identity, seed, class map, global settings and the line commands: codes 02h, 04h, 30h to 33h (chapters 2, 4, 5, 6, 11). -/

namespace Sys2Proof.Machine

/-! ### IDENT-READ, SEED (R27, R173) -/

/-- What IDENT-READ returns: vendor, part, revision and capacities (R173, log 15). -/
def identBytes : List Byte :=
  [0x48, 0x56, 0x03, 0x16, 0x01] ++ [32, 64, 16] ++ beBytes 2 Config.poolCells ++ [6, 4]

/-- IDENT-READ; its option byte has nothing to clear (R173). -/
def State.identRead (s : State) (body : List Byte) : State × Reply := s.ofLength 1 body (s, done identBytes)

/-- IDENT_READ (R173). -/
def execIdentRead (body : List Byte) (s : State) : Host.Outcome State Fault Refusal := .next (s.request 0x02 body (·.identRead body))

/-- The value a seed loads: ACE1h in place of 0 (R27). -/
def seedLoaded (v : BitVec 16) : BitVec 16 := if v = 0 then Config.jitterSeed else v

/-- SEED with its field spelled (R27, R173). -/
def State.loadSeed (s : State) (v : BitVec 16) : State × Reply :=
  (s.onSu fun u => { u with jitter := seedLoaded v }, doneOr (v = 0) (beBytes 2 (seedLoaded v).toNat))

/-- SEED (R27). -/
def State.seed (s : State) (body : List Byte) : State × Reply := s.ofLength 2 body (s.loadSeed (BitVec.ofNat 16 (field body 0 2)))

/-- SEED (R27). -/
def execSeed (body : List Byte) (s : State) : Host.Outcome State Fault Refusal := .next (s.request 0x04 body (·.seed body))

/-! ### CLASS-SET, SYSTEM-SET (R87, R172) -/

/-- The class map with a class written into the named entries (R87). -/
def classMapAfter (map kinds : FlagSet 64) (c : Urgency) : FlagSet 64 :=
  match c with
  | .urgent => map ||| kinds
  | .normal => map &&& ~~~ kinds

/-- CLASS-SET with its fields spelled (R87). -/
def State.writeClass (s : State) (kinds : FlagSet 64) (c : Urgency) : State × Reply :=
  ({ s with classMap := classMapAfter s.classMap kinds c }, done (beBytes 8 (classMapAfter s.classMap kinds c).toNat))

/-- CLASS-SET (R87). -/
def State.classSet (s : State) (body : List Byte) : State × Reply :=
  s.ofLength 9 body (s.parsed (urgencyOf (byteAt body 8)) (s.writeClass (BitVec.ofNat 64 (field body 0 8))))

/-- CLASS_SET (R87). -/
def execClassSet (body : List Byte) (s : State) : Host.Outcome State Fault Refusal := .next (s.request 0x30 body (·.classSet body))

/-- SYSTEM-SET with its fields spelled: all settings written in one step, and all returned (R172). -/
def State.writeSettings (s : State) (r : SettingsRequest) : State × Reply :=
  ({ s with settings := r.kept s.settings }, doneOr (r.adjusted s.settings) (r.kept s.settings).bytes)

/-- SYSTEM_SET (R172). -/
def execSystemSet (body : List Byte) (s : State) : Host.Outcome State Fault Refusal :=
  .next (s.request 0x31 body fun s => s.parsed (parseSystemSet body) s.writeSettings)

/-! ### LINE-SET, LINE-READ (R112, R113) -/

/-- A line's settings after a LINE-SET; STRICT sets the ratio counter to 0 (R106, R112). -/
def LinePort.withSettings (p : LinePort) (r : LineSetRequest) : LinePort :=
  { p with
    txEnable := r.txEnable.getD p.txEnable
    rxEnable := r.rxEnable.getD p.rxEnable
    ratio := r.ratio.getD p.ratio
    ratioCount := if r.ratio = some .strict then 0 else p.ratioCount }

/-- LINE-SET with its fields spelled: when transmit is turned on, SU issues its due soundings and an IDLE line reaches a frame boundary (R29, R104, R109, log 13). -/
def State.setLine (s : State) (r : LineSetRequest) : State × Reply :=
  let s1 := s.onLine r.line (·.withSettings r)
  (if !(s.lines.get r.line).txEnable && (s1.lines.get r.line).txEnable then s1.serve.boundary r.line else s1, done [])

/-- LINE_SET (R112). -/
def execLineSet (body : List Byte) (s : State) : Host.Outcome State Fault Refusal :=
  .next (s.request 0x32 body fun s => s.parsed (parseLineSet body) s.setLine)

/-- What a LINE-READ names: line 0 to 5, or local port P0 to P3 as 10h to 13h (11.5). -/
inductive LineName where
  | line (l : Line)
  | port (p : Port)
  deriving DecidableEq, Repr

/-- The line or port a byte names (11.5). -/
def lineNameOf (v : Nat) : Option LineName :=
  if h : v < 6 then some (.line ⟨v, h⟩) else if h : 16 ≤ v ∧ v < 20 then some (.port ⟨v - 16, by omega⟩) else none

/-- LINE-READ with its name spelled (R75, R113, R154). -/
def State.readLine (s : State) (name : LineName) (clear : Bool) : State × Reply :=
  match name with
  | .line l => (if clear then s.countLine l fun _ => .zero else s, done (s.lineBytes l))
  | .port p => (if clear then s.countPort p fun _ => .zero else s, done (s.ports.get p).bytes)

/-- LINE-READ (R113). -/
def State.lineRead (s : State) (body : List Byte) : State × Reply :=
  s.ofLength 2 body (s.parsed (lineNameOf (byteAt body 0)) fun name => s.readLine name (clearOption (byteAt body 1)))

/-- LINE_READ (R113). -/
def execLineRead (body : List Byte) (s : State) : Host.Outcome State Fault Refusal := .next (s.request 0x33 body (·.lineRead body))

end Sys2Proof.Machine
end

