-- ==== Sys2Proof/Machine/TimeCommands.lean ====
section
/-! DEFINITION. The time commands, codes 40h to 45h (chapter 8). -/

namespace Sys2Proof.Machine

/-! ### Reads (R134, R140) -/

/-- TIME-READ; its option byte has nothing to clear (R134). -/
def State.timeRead (s : State) (body : List Byte) : State × Reply := s.ofLength 1 body (s, done s.timeBytes)

/-- TIME_READ (R134). -/
def execTimeRead (body : List Byte) (s : State) : Host.Outcome State Fault Refusal := .next (s.request 0x40 body (·.timeRead body))

/-- PPS-READ: the last edge stamp and the edge count (R140). -/
def State.ppsRead (s : State) (body : List Byte) : State × Reply :=
  s.ofLength 1 body (s, done (beBytes 8 s.tb.ppsStamp.toNat ++ [s.tb.ppsCount]))

/-- PPS_READ (R140). -/
def execPpsRead (body : List Byte) (s : State) : Host.Outcome State Fault Refusal := .next (s.request 0x45 body (·.ppsRead body))

/-! ### TIME-SET (R138, R139) -/

/-- TIME-SET NOW: TIME is V with fraction 0, and a pending set is dropped (R138). -/
def TimeBase.setNow (t : TimeBase) (v : Stamp) : TimeBase := { t with time := v, frac := 0, pendingSet := none }

/-- TIME-SET AT PPS: the slew ends and V is pending for 2 s of core clock (R139). -/
def TimeBase.setAtPps (t : TimeBase) (v : Stamp) (clock : Nat) : TimeBase :=
  { t.endSlew with pendingSet := some ⟨v, clock + Config.setExpiryTicks⟩ }

/-- TIME-SET's modes (11.5). -/
inductive SetMode where
  | now | atPps
  deriving DecidableEq, Repr

/-- The mode a byte spells: 0 NOW, 1 AT PPS (11.5). -/
def setModeOf (v : Nat) : Option SetMode :=
  match v with
  | 0 => some .now
  | 1 => some .atPps
  | _ => none

/-- TIME-SET with its fields spelled (R138, R139). -/
def State.setTime (s : State) (v : Stamp) (mode : SetMode) : State × Reply :=
  match mode with
  | .now => (s.timeJump (s.tb.setNow v), done [])
  | .atPps => (s.onTb (·.setAtPps v s.clock), done [])

/-- TIME-SET, code 41h (R138, R139). -/
def State.timeSet (s : State) (body : List Byte) : State × Reply :=
  s.ofLength 9 body (s.parsed (setModeOf (byteAt body 0)) (s.setTime (BitVec.ofNat 64 (field body 1 8))))

/-- TIME_SET_NOW (R138): its bytes decide, as for TIME_SET_AT_PPS (log 18). -/
def execTimeSetNow (body : List Byte) (s : State) : Host.Outcome State Fault Refusal := .next (s.request 0x41 body (·.timeSet body))

/-- TIME_SET_AT_PPS (R139): its bytes decide, as for TIME_SET_NOW (log 18). -/
def execTimeSetAtPps (body : List Byte) (s : State) : Host.Outcome State Fault Refusal := .next (s.request 0x41 body (·.timeSet body))

/-! ### TIME-STEP, TIME-SLEW, TIME-RATE (R132, R135, R136) -/

/-- TIME-STEP and TIME-SLEW are refused while a set is pending (R135, R136). -/
def State.unlessPending (s : State) (act : State × Reply) : State × Reply := if s.tb.pendingSet.isSome then s.refusing .pending else act

/-- Range of a step's offset (R135). -/
def clampStep : Int → Int := clampInt (-1000000000) 1000000000

/-- TIME after a step, as a stamp. -/
def TimeBase.step1 (t : TimeBase) (offset : Int) : TimeBase := { t with time := BitVec.ofNat 64 (t.stepped (clampStep offset)) }

/-- The offset a step applies: the clamped one, or the one that brings TIME to an end of its range (R135). -/
def TimeBase.applied (t : TimeBase) (offset : Int) : Int := (t.stepped (clampStep offset) : Int) - t.time.toNat

/-- TIME-STEP with its field spelled (R135). -/
def State.stepTime (s : State) (offset : Int) : State × Reply :=
  s.unlessPending (s.timeJump (s.tb.step1 offset), doneOr (s.tb.applied offset ≠ offset) (signedBytes (s.tb.applied offset)))

/-- TIME-STEP (R135). -/
def State.timeStep (s : State) (body : List Byte) : State × Reply := s.ofLength 4 body (s.stepTime (signed32 (field body 0 4)))

/-- TIME_STEP (R135). -/
def execTimeStep (body : List Byte) (s : State) : Host.Outcome State Fault Refusal := .next (s.request 0x42 body (·.timeStep body))

/-- Range of a slew's offset (R136). -/
def clampSlew : Int → Int := clampInt (-1000000) 1000000

/-- TIME-SLEW with its field spelled (R136). -/
def State.slewTime (s : State) (offset : Int) : State × Reply :=
  s.unlessPending (s.onTb fun t => { t with slew := clampSlew offset, slewTicks := 0 },
    doneOr (clampSlew offset ≠ offset) (signedBytes (clampSlew offset)))

/-- TIME-SLEW (R136). -/
def State.timeSlew (s : State) (body : List Byte) : State × Reply := s.ofLength 4 body (s.slewTime (signed32 (field body 0 4)))

/-- TIME_SLEW (R136). -/
def execTimeSlew (body : List Byte) (s : State) : Host.Outcome State Fault Refusal := .next (s.request 0x43 body (·.timeSlew body))

/-- The STEP a TIME-RATE keeps (R132). -/
def keptStep (v : Nat) : Nat := clampNat Config.stepLow.toNat Config.stepHigh.toNat v

/-- TIME-RATE with its field spelled (R132). -/
def State.rateTime (s : State) (v : Nat) : State × Reply :=
  (s.onTb fun t => { t with step := BitVec.ofNat 40 (keptStep v) }, doneOr (keptStep v ≠ v) (beBytes 5 (keptStep v)))

/-- TIME-RATE (R132). -/
def State.timeRate (s : State) (body : List Byte) : State × Reply := s.ofLength 5 body (s.rateTime (field body 0 5))

/-- TIME_RATE (R132). -/
def execTimeRate (body : List Byte) (s : State) : Host.Outcome State Fault Refusal := .next (s.request 0x44 body (·.timeRate body))

end Sys2Proof.Machine
end

