-- ==== Sys2Proof/Machine/PortCommands.lean ====
section
/-! DEFINITION. The transaction of a first byte, and the meanings of the port's own commands: READ_STATUS, READ_RESPONSE, COMMAND_COMPLETION, UNKNOWN_COMMAND (chapter 11). -/

namespace Sys2Proof.Machine

/-! ### The transaction that a first byte names (R163, 11.5) -/

/-- What a request of code `code` runs: the command of the catalogue, or MALFORMED for a code that names none (R166, 11.5). SOFT-RESET is no such run (11.6). -/
def State.runCode (code : Byte) (body : List Byte) (s : State) : State × Reply :=
  match code.toNat with
  | 0x02 => s.identRead body
  | 0x04 => s.seed body
  | 0x10 => s.parsed (parsePathAdd body) s.pathAdd
  | 0x11 => s.parsed (parsePathSet body) fun x => s.pathSet x.1 x.2
  | 0x12 => s.pathHold body
  | 0x13 => s.pathRelease body
  | 0x14 => s.pathRequalify body
  | 0x15 => s.pathRetire body
  | 0x16 => s.pathRead body
  | 0x17 => s.pathFind body
  | 0x20 => s.feedOpen body
  | 0x21 => s.feedSet body
  | 0x22 => s.feedClose body
  | 0x23 => s.feedRead body
  | 0x24 => s.feedFind body
  | 0x25 => s.feedScan body
  | 0x26 => s.rankRead body
  | 0x30 => s.classSet body
  | 0x31 => s.parsed (parseSystemSet body) s.writeSettings
  | 0x32 => s.parsed (parseLineSet body) s.setLine
  | 0x33 => s.lineRead body
  | 0x40 => s.timeRead body
  | 0x41 => s.timeSet body
  | 0x42 => s.timeStep body
  | 0x43 => s.timeSlew body
  | 0x44 => s.timeRate body
  | 0x45 => s.ppsRead body
  | 0x50 => s.eventRead body
  | 0x51 => s.eventClear body
  | 0x52 => s.eventMask body
  | 0x53 => s.noticeRead body
  | 0x54 => s.noticeClear body
  | _ => s.refusing .malformed

/-- A whole transaction, from its first byte and the complete bytes after it (R163). -/
def State.transaction (s : State) (first : Byte) (body : List Byte) : State :=
  if first = 0x00 then body.foldl (fun s _ => s.readStatus true) (s.readStatus false)
  else if first = 0x01 then s.readResponse body.length
  else if first = 0x03 then s.softReset body
  else s.request first body (State.runCode first body)

/-! ### The port's own commands -/

/-- READ_STATUS (R169). -/
def execReadStatus (further : Bool) (s : State) : Host.Outcome State Fault Refusal := .next (s.readStatus further)

/-- READ_RESPONSE (R168). -/
def execReadResponse (clocked : Nat) (s : State) : Host.Outcome State Fault Refusal := .next (s.readResponse clocked)

/-- COMMAND_COMPLETION (R167). -/
def execCommandCompletion (s : State) : Host.Outcome State Fault Refusal := .next s.completeCommand

/-- UNKNOWN_COMMAND (R166): a code outside the catalogue is taken as any request, answered MALFORMED, and not run. The first byte decides, so a code of the catalogue is run as
its command (R163, log 18). -/
def execUnknownCommand (code : Byte) (body : List Byte) (s : State) : Host.Outcome State Fault Refusal := .next (s.transaction code body)

end Sys2Proof.Machine
end

