-- ==== Sys2Proof/Machine/TimerEvents.lean ====
section
/-! DEFINITION. The meanings of the timed events: ticks, edges, expiries, closes and soundings. -/

namespace Sys2Proof.Machine

/-- CORE_TICK (R131): `n` ticks, with the corrections they carry (R136, log 7, log 8). -/
def execCoreTick (n : Nat) (s : State) : Host.Outcome State Fault Refusal := .next (s.tick n)

/-- SLEW_CORRECTION (R136): the core tick that carries a correction, when the next one does (log 8). -/
def execSlewCorrection (s : State) : Host.Outcome State Fault Refusal := .next (if s.tb.correctionDue then s.tick 1 else s)

/-- PPS_EDGE (R140). -/
def execPpsEdge (s : State) : Host.Outcome State Fault Refusal := .next s.ppsEdge

/-- TIME_SET_EXPIRY (R141). -/
def execTimeSetExpiry (s : State) : Host.Outcome State Fault Refusal := .next s.expireSet

/-- MS_TICK (R19). -/
def execMsTick (s : State) : Host.Outcome State Fault Refusal := .next s.msTick

/-- WINDOW_CLOSE (R70). -/
def execWindowClose (s : State) : Host.Outcome State Fault Refusal := .next s.windowClose

/-- STATUS_TIMER_EXPIRY (R61). -/
def execStatusTimerExpiry (line : RadioLine) (s : State) : Host.Outcome State Fault Refusal := .next (s.statusTimer line)

/-- SOUNDING_DUE (R25). -/
def execSoundingDue (slot : PathSlot) (s : State) : Host.Outcome State Fault Refusal := .next (s.soundingDue slot)

/-- SOUNDING_LOST (R31). -/
def execSoundingLost (context : ContextId) (s : State) : Host.Outcome State Fault Refusal := .next (s.soundingLost context)

end Sys2Proof.Machine
end

