-- ==== Sys2Proof/Machine/Dispatch.lean ====
section
/-! DEFINITION. The meaning of each command: one arm per constructor, each one call. -/

namespace Sys2Proof.Machine

def exec (i : Instr) (s : State) : Host.Outcome State Fault Refusal :=
  match i with
  | .readStatus further => Sys2Proof.Machine.execReadStatus further s
  | .readResponse clocked => Sys2Proof.Machine.execReadResponse clocked s
  | .identRead body => Sys2Proof.Machine.execIdentRead body s
  | .softReset body => Sys2Proof.Machine.execSoftReset body s
  | .endOfWalk => Sys2Proof.Machine.execEndOfWalk s
  | .seed body => Sys2Proof.Machine.execSeed body s
  | .pathAdd body => Sys2Proof.Machine.execPathAdd body s
  | .pathSet body => Sys2Proof.Machine.execPathSet body s
  | .pathHold body => Sys2Proof.Machine.execPathHold body s
  | .pathRelease body => Sys2Proof.Machine.execPathRelease body s
  | .pathRequalify body => Sys2Proof.Machine.execPathRequalify body s
  | .pathRetire body => Sys2Proof.Machine.execPathRetire body s
  | .pathRead body => Sys2Proof.Machine.execPathRead body s
  | .pathFind body => Sys2Proof.Machine.execPathFind body s
  | .feedOpen body => Sys2Proof.Machine.execFeedOpen body s
  | .feedSet body => Sys2Proof.Machine.execFeedSet body s
  | .feedClose body => Sys2Proof.Machine.execFeedClose body s
  | .feedRead body => Sys2Proof.Machine.execFeedRead body s
  | .feedFind body => Sys2Proof.Machine.execFeedFind body s
  | .feedScan body => Sys2Proof.Machine.execFeedScan body s
  | .rankRead body => Sys2Proof.Machine.execRankRead body s
  | .classSet body => Sys2Proof.Machine.execClassSet body s
  | .systemSet body => Sys2Proof.Machine.execSystemSet body s
  | .lineSet body => Sys2Proof.Machine.execLineSet body s
  | .lineRead body => Sys2Proof.Machine.execLineRead body s
  | .timeRead body => Sys2Proof.Machine.execTimeRead body s
  | .timeSetNow body => Sys2Proof.Machine.execTimeSetNow body s
  | .timeSetAtPps body => Sys2Proof.Machine.execTimeSetAtPps body s
  | .timeStep body => Sys2Proof.Machine.execTimeStep body s
  | .timeSlew body => Sys2Proof.Machine.execTimeSlew body s
  | .timeRate body => Sys2Proof.Machine.execTimeRate body s
  | .ppsRead body => Sys2Proof.Machine.execPpsRead body s
  | .eventRead body => Sys2Proof.Machine.execEventRead body s
  | .eventClear body => Sys2Proof.Machine.execEventClear body s
  | .eventMask body => Sys2Proof.Machine.execEventMask body s
  | .noticeRead body => Sys2Proof.Machine.execNoticeRead body s
  | .noticeClear body => Sys2Proof.Machine.execNoticeClear body s
  | .hardwareReset level => Sys2Proof.Machine.execHardwareReset level s
  | .initialisationEnd => Sys2Proof.Machine.execInitialisationEnd s
  | .ppsEdge => Sys2Proof.Machine.execPpsEdge s
  | .timeSetExpiry => Sys2Proof.Machine.execTimeSetExpiry s
  | .coreTick n => Sys2Proof.Machine.execCoreTick n s
  | .slewCorrection => Sys2Proof.Machine.execSlewCorrection s
  | .msTick => Sys2Proof.Machine.execMsTick s
  | .windowClose => Sys2Proof.Machine.execWindowClose s
  | .statusTimerExpiry line => Sys2Proof.Machine.execStatusTimerExpiry line s
  | .soundingDue slot => Sys2Proof.Machine.execSoundingDue slot s
  | .soundingLost context => Sys2Proof.Machine.execSoundingLost context s
  | .feedFrame line arrival bytes => Sys2Proof.Machine.execFeedFrame line arrival bytes s
  | .soundFrame line arrival bytes => Sys2Proof.Machine.execSoundFrame line arrival bytes s
  | .echoFrame line arrival bytes => Sys2Proof.Machine.execEchoFrame line arrival bytes s
  | .modemStatusFrame line arrival bytes => Sys2Proof.Machine.execModemStatusFrame line arrival bytes s
  | .badKindFrame line arrival bytes => Sys2Proof.Machine.execBadKindFrame line arrival bytes s
  | .localFrame port arrival bytes => Sys2Proof.Machine.execLocalFrame port arrival bytes s
  | .presentNInactive line => Sys2Proof.Machine.execPresentNInactive line s
  | .presentNActive line => Sys2Proof.Machine.execPresentNActive line s
  | .lockGained line => Sys2Proof.Machine.execLockGained line s
  | .lockLost line => Sys2Proof.Machine.execLockLost line s
  | .frameCompletion line => Sys2Proof.Machine.execFrameCompletion line s
  | .localSendEnd port => Sys2Proof.Machine.execLocalSendEnd port s
  | .commandCompletion => Sys2Proof.Machine.execCommandCompletion s
  | .unknownCommand code body => Sys2Proof.Machine.execUnknownCommand code body s

end Sys2Proof.Machine
end

