-- ==== Sys2Proof/WellFormed.lean ====
section
/-! DEFINITION. When a command's operands spell the row the command stands for. A command that is not well formed still runs, by its bytes (log 18). -/

namespace Sys2Proof

/-- The command codes of the catalogue (11.5), with READ-STATUS and READ-RESPONSE. -/
def catalogueCodes : List Byte :=
  [0x00, 0x01, 0x02, 0x03, 0x04, 0x10, 0x11, 0x12, 0x13, 0x14, 0x15, 0x16, 0x17, 0x20, 0x21, 0x22, 0x23, 0x24, 0x25, 0x26,
   0x30, 0x31, 0x32, 0x33, 0x40, 0x41, 0x42, 0x43, 0x44, 0x45, 0x50, 0x51, 0x52, 0x53, 0x54]

/-- Whether an arrival carries the bytes its moment has: none at the first byte, those that `form` takes at the last. -/
def arrivesAs (form : List Byte → Bool) (arrival : Arrival) (bytes : List Byte) : Bool :=
  match arrival with
  | .firstByte => bytes.isEmpty
  | .lastByte => form bytes

/-- Whether the bytes are a frame of kind `k` with a whole header. -/
def isFrameOf (k : Byte) (bytes : List Byte) : Bool := bytes.head? = some k && hasWholeHeader bytes

/-- The operands spell the row: a TIME-SET's mode byte, a frame's kind byte and header, a code that names no command, a tick that passes. -/
def Instr.wellFormed : Instr → Bool
  | .timeSetNow body => body.head? ≠ some modeAtPps
  | .timeSetAtPps body => body.head? = some modeAtPps
  | .feedFrame _ arrival bytes => arrivesAs (isFrameOf 0x01#8) arrival bytes
  | .soundFrame _ arrival bytes => arrivesAs (isFrameOf 0x02#8) arrival bytes
  | .echoFrame _ arrival bytes => arrivesAs (isFrameOf 0x03#8) arrival bytes
  | .modemStatusFrame _ arrival bytes => arrivesAs (isFrameOf 0x04#8) arrival bytes
  | .badKindFrame _ arrival bytes => arrivesAs (fun x => !hasWholeHeader x) arrival bytes
  | .unknownCommand code _ => !catalogueCodes.contains code
  | .coreTick n => n ≠ 0
  | .readStatus _ => true
  | .readResponse _ => true
  | .identRead _ => true
  | .softReset _ => true
  | .endOfWalk => true
  | .seed _ => true
  | .pathAdd _ => true
  | .pathSet _ => true
  | .pathHold _ => true
  | .pathRelease _ => true
  | .pathRequalify _ => true
  | .pathRetire _ => true
  | .pathRead _ => true
  | .pathFind _ => true
  | .feedOpen _ => true
  | .feedSet _ => true
  | .feedClose _ => true
  | .feedRead _ => true
  | .feedFind _ => true
  | .feedScan _ => true
  | .rankRead _ => true
  | .classSet _ => true
  | .systemSet _ => true
  | .lineSet _ => true
  | .lineRead _ => true
  | .timeRead _ => true
  | .timeStep _ => true
  | .timeSlew _ => true
  | .timeRate _ => true
  | .ppsRead _ => true
  | .eventRead _ => true
  | .eventClear _ => true
  | .eventMask _ => true
  | .noticeRead _ => true
  | .noticeClear _ => true
  | .hardwareReset _ => true
  | .initialisationEnd => true
  | .ppsEdge => true
  | .timeSetExpiry => true
  | .slewCorrection => true
  | .msTick => true
  | .windowClose => true
  | .statusTimerExpiry _ => true
  | .soundingDue _ => true
  | .soundingLost _ => true
  | .localFrame _ arrival bytes => arrivesAs (fun _ => true) arrival bytes
  | .presentNInactive _ => true
  | .presentNActive _ => true
  | .lockGained _ => true
  | .lockLost _ => true
  | .frameCompletion _ => true
  | .localSendEnd _ => true
  | .commandCompletion => true

end Sys2Proof
end

