-- ==== Sys2Proof/Safety.lean ====
section
/-! DEFINITION. What the statements about the block speak of: the request a command carries, the port after an answer, and the invariants of the state. -/

namespace Sys2Proof

/-! ### Requests -/

/-- The code byte and the bytes after it, of a command that is a request transaction: one whose first byte is neither 00h nor 01h (R163, R166). -/
def Instr.asRequest : Instr → Option (Byte × List Byte)
  | .identRead body => some (0x02, body)
  | .softReset body => some (0x03, body)
  | .seed body => some (0x04, body)
  | .pathAdd body => some (0x10, body)
  | .pathSet body => some (0x11, body)
  | .pathHold body => some (0x12, body)
  | .pathRelease body => some (0x13, body)
  | .pathRequalify body => some (0x14, body)
  | .pathRetire body => some (0x15, body)
  | .pathRead body => some (0x16, body)
  | .pathFind body => some (0x17, body)
  | .feedOpen body => some (0x20, body)
  | .feedSet body => some (0x21, body)
  | .feedClose body => some (0x22, body)
  | .feedRead body => some (0x23, body)
  | .feedFind body => some (0x24, body)
  | .feedScan body => some (0x25, body)
  | .rankRead body => some (0x26, body)
  | .classSet body => some (0x30, body)
  | .systemSet body => some (0x31, body)
  | .lineSet body => some (0x32, body)
  | .lineRead body => some (0x33, body)
  | .timeRead body => some (0x40, body)
  | .timeSetNow body => some (0x41, body)
  | .timeSetAtPps body => some (0x41, body)
  | .timeStep body => some (0x42, body)
  | .timeSlew body => some (0x43, body)
  | .timeRate body => some (0x44, body)
  | .ppsRead body => some (0x45, body)
  | .eventRead body => some (0x50, body)
  | .eventClear body => some (0x51, body)
  | .eventMask body => some (0x52, body)
  | .noticeRead body => some (0x53, body)
  | .noticeClear body => some (0x54, body)
  | .unknownCommand code body => if code = 0x00 ∨ code = 0x01 then none else some (code, body)
  | .readStatus _ => none
  | .readResponse _ => none
  | .endOfWalk => none
  | .hardwareReset _ => none
  | .initialisationEnd => none
  | .ppsEdge => none
  | .timeSetExpiry => none
  | .coreTick _ => none
  | .slewCorrection => none
  | .msTick => none
  | .windowClose => none
  | .statusTimerExpiry _ => none
  | .soundingDue _ => none
  | .soundingLost _ => none
  | .feedFrame _ _ _ => none
  | .soundFrame _ _ _ => none
  | .echoFrame _ _ _ => none
  | .modemStatusFrame _ _ _ => none
  | .badKindFrame _ _ _ => none
  | .localFrame _ _ _ => none
  | .presentNInactive _ => none
  | .presentNActive _ => none
  | .lockGained _ => none
  | .lockLost _ => none
  | .frameCompletion _ => none
  | .localSendEnd _ => none
  | .commandCompletion => none

/-- The request lengths of the catalogue, the command code counted (11.5); none for a code that names no command. -/
def requestLengths (code : Byte) : List Nat :=
  match code.toNat with
  | 0x02 => [2]
  | 0x03 => [1]
  | 0x04 => [3]
  | 0x10 => [22]
  | 0x11 => [19]
  | 0x12 => [2]
  | 0x13 => [2]
  | 0x14 => [2]
  | 0x15 => [2]
  | 0x16 => [3]
  | 0x17 => [4]
  | 0x20 => [21, 12]
  | 0x21 => [14, 4]
  | 0x22 => [2]
  | 0x23 => [3]
  | 0x24 => [4]
  | 0x25 => [2]
  | 0x26 => [3]
  | 0x30 => [10]
  | 0x31 => [27]
  | 0x32 => [6]
  | 0x33 => [3]
  | 0x40 => [2]
  | 0x41 => [10]
  | 0x42 => [5]
  | 0x43 => [5]
  | 0x44 => [6]
  | 0x45 => [2]
  | 0x50 => [2]
  | 0x51 => [4]
  | 0x52 => [4]
  | 0x53 => [2]
  | 0x54 => [1]
  | _ => []

namespace Machine

/-- The command port after a taken request: WORKING with the answer, the buffer empty, and on MISO the status byte and then 00h (R163, R165). -/
def State.answered (s : State) (body : List Byte) (code : Byte) (result : Result) (fields : List Byte) : CommandPort :=
  ⟨.working ⟨code, result, fields⟩, none, s.statusByte :: List.replicate body.length 0, false⟩

/-- The command port after a request that is not taken (R165). -/
def State.unanswered (s : State) (body : List Byte) : CommandPort :=
  ⟨s.cmp.engine, s.cmp.buffer, s.statusByte :: List.replicate body.length 0, false⟩

/-- A number below 256 as a byte of a request or response. -/
def byteOf (v : Nat) : Byte := BitVec.ofNat 8 v

/-- An optional path slot as a byte: FFh for absent (R171). -/
def slotByteOf (p : Option PathSlot) : Byte := (p.map fun i => byteOf i.val).getD 0xFF

/-! ### The cell pool and the queues (R1, R98, R108) -/

/-- Cells of every frame in the line queues, frames in transmission included (R98). -/
def State.cellsQueued (s : State) : Nat := ((List.finRange 6).map fun l => queueCells (s.lines.get l).frames).sum

/-- Free cells and queued cells add to 4,096 (R98). -/
def State.PoolWhole (s : State) : Prop := s.freeCells + s.cellsQueued = 4096

/-- No two paths outside VACANT have the same line and route tag (R1). -/
def State.IdentitiesUnique (s : State) : Prop :=
  ∀ i k : PathSlot, i ≠ k → (s.paths.get i).life ≠ .vacant → (s.paths.get k).life ≠ .vacant →
    ¬ ((s.paths.get i).line = (s.paths.get k).line ∧ (s.paths.get i).tag = (s.paths.get k).tag)

/-- Every path's queued-frame count is the number of frames on its line with its route tag, and every queued frame has such a path (R20, R108). -/
def State.QueuesCounted (s : State) : Prop :=
  (∀ i : PathSlot, (s.paths.get i).life ≠ .vacant →
    (s.paths.get i).queued = (s.lines.get (s.paths.get i).line).framesOf (s.paths.get i).tag)
  ∧ ∀ (l : Line) (f : QueuedFrame), f ∈ (s.lines.get l).frames →
      ∃ i : PathSlot, (s.paths.get i).life ≠ .vacant ∧ (s.paths.get i).line = l ∧ (s.paths.get i).tag = f.copy.tag

/-! ### Soundings (R15, R23, R28) -/

/-- Every occupied context names a measured path with its line and route tag, on a line with carrier (R23). -/
def State.ContextsLive (s : State) : Prop :=
  ∀ (c : ContextId) (x : Context), s.su.contexts.get c = some x →
    (s.paths.get x.path).measured = true ∧ (s.paths.get x.path).line = x.line ∧ (s.paths.get x.path).tag = x.tag
      ∧ (s.lines.get x.line).carrier = true

/-- A path that is due is measured, and a path that waits for a context is due (R25, R28). -/
def State.DueMeasured (s : State) : Prop :=
  ∀ i : PathSlot, (s.su.due.mem i.val = true → (s.paths.get i).measured = true) ∧ (s.su.waiting.mem i.val = true → s.su.due.mem i.val = true)

/-- No context is occupied in hardware reset and initialisation (R42). -/
def State.QuietWhenOff (s : State) : Prop := s.off = true → ∀ c : ContextId, s.su.contexts.get c = none

/-- The sounding unit's invariant. -/
def State.SoundingsLive (s : State) : Prop := s.ContextsLive ∧ s.DueMeasured ∧ s.QuietWhenOff

/-! ### The feed table (R13, R77, R79, R90) -/

/-- An OPEN OUTBOUND feed. -/
def Feed.sends (f : Feed) : Prop := f.opened = true ∧ f.direction = .outbound

/-- No two OPEN feeds of one direction share a number (R77). -/
def State.NumbersUnique (s : State) : Prop :=
  ∀ i k : FeedSlot, i ≠ k → (s.feeds.get i).opened = true → (s.feeds.get k).opened = true →
    ¬ ((s.feeds.get i).direction = (s.feeds.get k).direction ∧ (s.feeds.get i).number = (s.feeds.get k).number)

/-- An OUTBOUND feed's path set names measured paths, and its pin and lead are members of it (R79, R80, R90). -/
def State.ReferencesLive (s : State) : Prop :=
  ∀ k : FeedSlot, (s.feeds.get k).sends →
    (∀ i : PathSlot, (s.feeds.get k).out.pathSet.mem i.val = true → (s.paths.get i).measured = true)
    ∧ (∀ i : PathSlot, (s.feeds.get k).out.pin = some i → (s.feeds.get k).out.pathSet.mem i.val = true)
    ∧ ∀ i : PathSlot, (s.feeds.get k).out.lead = some i → (s.feeds.get k).out.pathSet.mem i.val = true

/-- The feed table's invariant. -/
def State.FeedsSound (s : State) : Prop := s.NumbersUnique ∧ s.ReferencesLive

/-! ### Route notices (R159) -/

/-- The pending set is empty while the latch is EMPTY, never holds the latch's slot, and names OPEN OUTBOUND feeds only (R159). -/
def State.NoticesOrderly (s : State) : Prop :=
  (s.nu.latch = none → ∀ k : FeedSlot, s.nu.queued.mem k.val = false)
  ∧ (∀ n : Notice, s.nu.latch = some n → s.nu.queued.mem n.feed.val = false)
  ∧ ∀ k : FeedSlot, s.nu.queued.mem k.val = true → (s.feeds.get k).sends

/-! ### Bounds of lists and counts (R37, R106, R116, R126) -/

/-- At most 4 echo entries on a line, a ratio counter of at most 8, at most 64 frames in a FIFO, and a too-old run below 4. -/
def State.ListsBounded (s : State) : Prop :=
  (∀ l : Line, (s.lines.get l).echoes.length ≤ 4 ∧ (s.lines.get l).ratioCount ≤ 8)
  ∧ (∀ p : Port, (s.ports.get p).fifo.length ≤ 64)
  ∧ ∀ k : FeedSlot, (s.feeds.get k).inb.window.tooOldRun ≤ 3

/-! ### Ranges of values (R4, R6, R21, R50, R58, R74, R96, R132, R136) -/

/-- The ranges of the numeric global settings. -/
def Settings.InRange (x : Settings) : Prop :=
  1 ≤ x.trialCount ∧ x.trialCount ≤ 64 ∧ x.trialTolerance ≤ 5000000 ∧ 10 ≤ x.ageLimit ∧ x.ageLimit ≤ 4000 ∧ x.marginPenalty ≤ 1000000
    ∧ x.jitterFactor ≤ 3 ∧ 1 ≤ x.windowLength ∧ x.windowLength ≤ 255 ∧ 1 ≤ x.marginalThreshold ∧ x.marginalThreshold ≤ x.fadeThreshold
    ∧ x.fadeThreshold ≤ 255 ∧ x.gradeFloor ≤ 7 ∧ 1 ≤ x.settleWindows ∧ x.settleWindows ≤ 255 ∧ 1 ≤ x.recoveryWindows
    ∧ x.recoveryWindows ≤ 255 ∧ x.switchMargin ≤ 1000000

/-- The ranges of a path's tuning fields (R4). -/
def Tuning.InRange (t : Tuning) : Prop :=
  t.nominal ≤ 20000000 ∧ -1000000 ≤ t.asymmetry ∧ t.asymmetry ≤ 1000000 ∧ t.shift ≤ 7 ∧ 1000 ≤ t.spike ∧ t.spike ≤ 1000000
    ∧ 1 ≤ t.interval ∧ t.interval ≤ 1000 ∧ t.timeout ≤ 5

/-- The ranges of a path's estimate and trial count (R50, R6). -/
def Path.InRange (p : Path) : Prop :=
  p.tuning.InRange ∧ p.e ≤ 320000000 ∧ p.j ≤ 16000000 ∧ p.goodCount ≤ 64 ∧ (p.life = .trial → p.goodCount ≤ 63)

/-- The ranges of the time base (R132, R136): a slew tick count below 1,000 that rests at 0 without a remainder. -/
def TimeBase.InRange (t : TimeBase) : Prop :=
  Config.stepLow ≤ t.step ∧ t.step ≤ Config.stepHigh ∧ -1000000 ≤ t.slew ∧ t.slew ≤ 1000000 ∧ t.slewTicks ≤ 999 ∧ (t.slew = 0 → t.slewTicks = 0)

/-- Every value with a range lies in it. -/
def State.ValuesInRange (s : State) : Prop := s.settings.InRange ∧ (∀ i : PathSlot, (s.paths.get i).InRange) ∧ s.tb.InRange

end Machine

end Sys2Proof
end

