-- ==== Sys2Proof/Certificates/Slice0/Obligations.lean ====
section
/-! DEFINITION. The statements for the provers. A statement that cites log n rests there on a choice of the model. -/

open Sys2Proof Sys2Proof.Machine

/-! ### The queue and reset -/

/-- A step runs the command at the front of the queue on the state with the queue's rest; on an empty queue the block idles, which is the model's choice (log 1). -/
def Obligations.StepRunsTheFrontCommand : Prop :=
  (∀ (s : State) (c : Instr) (rest : List Instr), step { s with pending := c :: rest } = exec c { s with pending := rest })
  ∧ ∀ s : State, s.pending = [] → step s = .next s

/-- Right after hardware reset every unit holds the values its chapter gives: vacant slots (R2), a quiet sounding unit (R42), idle lines (R76, R114), closed feeds (R77), empty
local ports with no frame in arrival on any lane (R130, R154), the time base (R143), the notice unit (R162), the settings (R172), and the engine RESETTING with an empty buffer (R176). -/
def Obligations.ResetHoldsTheResetValues : Prop :=
  State.reset.cmp.engine = .initialising ∧ State.reset.cmp.buffer = none
  ∧ (∀ i : PathSlot, State.reset.paths.get i =
      { life := .vacant, line := 0, tag := 0, tuning := ⟨0, 0, 3, 50000, 20, 0⟩, est := .empty, e := 0, j := 0, age := 0, outlierRun := .none,
        goodCount := 0, trialFailed := false, weather := ⟨.clear, 0, 0, 0, 0, 0, 0⟩, queued := 0, wins := 0,
        counters := ⟨0, 0, 0, 0, 0, 0, 0⟩ })
  ∧ (∀ c : ContextId, State.reset.su.contexts.get c = none) ∧ (∀ i : PathSlot, State.reset.su.nextDue.get i = none)
  ∧ State.reset.su.waiting = 0 ∧ State.reset.su.nextId = 0 ∧ State.reset.su.jitter = 0xACE1
  ∧ (∀ l : Line,
      (State.reset.lines.get l).urgent = [] ∧ (State.reset.lines.get l).normal = [] ∧ (State.reset.lines.get l).tx = none
      ∧ (State.reset.lines.get l).echoes = [] ∧ (State.reset.lines.get l).sounds = [] ∧ (State.reset.lines.get l).ratio = .eight
      ∧ (State.reset.lines.get l).ratioCount = 0 ∧ (State.reset.lines.get l).txEnable = true ∧ (State.reset.lines.get l).rxEnable = true
      ∧ (State.reset.lines.get l).timer = none ∧ (State.reset.lines.get l).counters = ⟨0, 0, 0, 0, 0, 0, 0, 0, 0, 0, 0, 0, 0, 0, 0⟩
      ∧ (l.val < 4 → (State.reset.lines.get l).grade = 0))
  ∧ State.reset.freeCells = 4096
  ∧ (∀ k : FeedSlot, State.reset.feeds.get k =
      ⟨false, .outbound, 0, ⟨0, 0, false, none, 0, .normal, .urgent, 1, none, 0, ⟨0, 0, 0, 0, 0, 0, 0⟩⟩,
        ⟨0, 4, .adopt, ⟨false, 0, 0, 0⟩, ⟨0, 0, 0, 0, 0, 0, 0⟩⟩⟩)
  ∧ State.reset.classMap = 0 ∧ State.reset.scanCursor = 0 ∧ (∀ p : Port, State.reset.ports.get p = ⟨[], ⟨0, 0, 0, 0, 0, 0⟩⟩)
  ∧ (∀ l : Line, State.reset.lineArrival.get l = none) ∧ (∀ p : Port, State.reset.portArrival.get p = none)
  ∧ State.reset.tb = ⟨0, 0, 0x0280000000, 0, 0, none, 0, 0⟩
  ∧ State.reset.nu.flags = 0 ∧ (∀ k, State.reset.nu.pathSets.get k = 0) ∧ (∀ k, State.reset.nu.lineSets.get k = 0)
  ∧ (∀ k, State.reset.nu.feedSets.get k = 0) ∧ State.reset.nu.mask = 0 ∧ State.reset.nu.latch = none ∧ State.reset.nu.queued = 0
  ∧ State.reset.settings = ⟨8, 100000, 250, 100000, 1, 10, 4, 1, 2, 3, 20, 2000, .shared, true⟩

/-- Every invariant stated below holds right after hardware reset. -/
def Obligations.InvariantsHoldAtReset : Prop :=
  State.reset.PoolWhole ∧ State.reset.IdentitiesUnique ∧ State.reset.QueuesCounted ∧ State.reset.SoundingsLive ∧ State.reset.FeedsSound
    ∧ State.reset.NoticesOrderly ∧ State.reset.ListsBounded ∧ State.reset.ValuesInRange

/-! ### Frames in arrival (R133, R148, R152) -/

/-- The state with no frame in arrival on line `l`: the one in which a line frame is judged at its last byte. -/
def quietLine (s : State) (l : Line) : State := { s with lineArrival := s.lineArrival.set l none }

/-- The stamp of a frame whose last byte arrives on line `l`: the one taken at its first byte, or TIME where the whole frame arrives at once (log 9). -/
def stampOnLine (s : State) (l : Line) : Stamp := match s.lineArrival.get l with
  | some t => t
  | none => s.tb.time

/-- The state with no frame in arrival on local port `p`. -/
def quietPort (s : State) (p : Port) : State := { s with portArrival := s.portArrival.set p none }

/-- The origin stamp of a frame whose last byte arrives on local port `p`: the one taken at its first byte, or TIME where the whole frame arrives at once (log 9). -/
def stampOnPort (s : State) (p : Port) : Stamp := match s.portArrival.get p with
  | some t => t
  | none => s.tb.time

/-! ### The command port -/

/-- READ-STATUS shifts out the status byte, taken afresh for each further byte of the open transaction (log 4), and changes no unit (R169); the bits of the status byte (R164). -/
def Obligations.ReadStatusShiftsTheStatusByte : Prop :=
  (∀ s : State, exec (.readStatus false) s = .next { s with cmp := { s.cmp with miso := [s.statusByte], statusOpen := true } })
  ∧ (∀ s : State, s.cmp.statusOpen = true →
      exec (.readStatus true) s = .next { s with cmp := { s.cmp with miso := s.cmp.miso ++ [s.statusByte] } })
  ∧ (∀ s : State, s.cmp.engine = .held → s.statusByte = 0)
  ∧ ∀ s : State, s.cmp.engine ≠ .held →
      s.statusByte.getLsbD 7 = true ∧ s.statusByte.getLsbD 6 = false
      ∧ (s.cmp.engine = .idle → s.statusByte.getLsbD 5 = false ∧ s.statusByte.getLsbD 4 = false)
      ∧ (∀ r, s.cmp.engine = .working r → s.statusByte.getLsbD 5 = false ∧ s.statusByte.getLsbD 4 = true)
      ∧ (s.cmp.engine = .walking ∨ s.cmp.engine = .initialising → s.statusByte.getLsbD 5 = true ∧ s.statusByte.getLsbD 4 = false)
      ∧ s.statusByte.getLsbD 3 = s.cmp.buffer.isSome ∧ s.statusByte.getLsbD 2 = s.nu.interrupt
      ∧ s.statusByte.getLsbD 1 = false ∧ s.statusByte.getLsbD 0 = false

/-- The completion of a request writes its response and returns the engine to IDLE (R167); READ-RESPONSE shifts out the waiting response, or NOTHING, with 00h beyond its end,
and empties the buffer (R168). -/
def Obligations.ResponseIsWrittenAndCollected : Prop :=
  (∀ (s : State) (r : Response), s.cmp.engine = .working r →
      exec .commandCompletion s = .next { s with cmp := { s.cmp with engine := .idle, buffer := some r } })
  ∧ (∀ (s : State) (r : Response) (n : Nat), s.cmp.engine ≠ .held → s.cmp.buffer = some r →
      exec (.readResponse n) s = .next { s with cmp := { s.cmp with
        miso := s.statusByte :: ([r.code, r.result.byte] ++ beBytes 2 r.fields.length ++ r.fields ++ List.replicate n 0).take n
        buffer := none
        statusOpen := false } })
  ∧ ∀ (s : State) (n : Nat), s.cmp.engine ≠ .held → s.cmp.buffer = none →
      exec (.readResponse n) s = .next { s with cmp := { s.cmp with
        miso := s.statusByte :: ([0x01, 0x08, 0x00, 0x00] ++ List.replicate n 0).take n
        statusOpen := false } }

/-- A request whose status byte does not show IDLE is not taken: engine, buffer, RESPONSE WAITING and every unit stay as they were (R165). -/
def Obligations.RequestIsNotTakenUnlessIdle : Prop :=
  ∀ (s : State) (c : Instr) (code : Byte) (body : List Byte), c.asRequest = some (code, body) → s.cmp.engine ≠ .idle →
    exec c s = .next { s with cmp := s.unanswered body }

/-- A taken request of a length that the catalogue does not give its code, or of a code that names no command (UNKNOWN_COMMAND), is answered MALFORMED and changes nothing apart from the port's own
state (R166). -/
def Obligations.RequestOfAnotherLengthIsMalformed : Prop :=
  ∀ (s : State) (c : Instr) (code : Byte) (body : List Byte), c.asRequest = some (code, body) → s.cmp.engine = .idle →
    body.length + 1 ∉ requestLengths code →
    exec c s = .next { s with cmp := s.answered body code .malformed [] }

/-! ### Path commands -/

/-- The bytes of a PATH-ADD after its code (11.5). -/
def pathAddBytes (choice : Byte) (line : Line) (tag : BitVec 12) (nominal : BitVec 32) (presence : Byte) (asymmetry : BitVec 32) (k : Byte)
    (spike : BitVec 32) (interval : BitVec 16) (timeout : Byte) : List Byte :=
  [choice, byteOf line.val] ++ beBytes 2 tag.toNat ++ beBytes 4 nominal.toNat ++ [presence] ++ beBytes 4 asymmetry.toNat ++ [k]
    ++ beBytes 4 spike.toNat ++ beBytes 2 interval.toNat ++ [timeout]

/-- PATH-ADD of a free identity into the named VACANT slot, or under ANY into the lowest VACANT one: the path enters TRIAL with its tuning fields in range, its record as R5 gives,
due at once, and the answer carries the slot, ADJUSTED when a value was brought into range (R4, R5, R25). Nothing else changes. That nominal delay and spike limit are read as unsigned
numbers is the model's (log 21). -/
def Obligations.PathAddEntersTrial : Prop :=
  ∀ (s : State) (i : PathSlot) (choice : Byte) (line : Line) (tag : BitVec 12) (nominal : BitVec 32) (presence : Byte) (asymmetry : BitVec 32)
    (k : Byte) (spike : BitVec 32) (interval : BitVec 16) (timeout : Byte),
    s.cmp.engine = .idle →
    (∀ m : PathSlot, (s.paths.get m).life ≠ .vacant → ¬ ((s.paths.get m).line = line ∧ (s.paths.get m).tag = tag)) →
    (s.paths.get i).life = .vacant →
    (choice = byteOf i.val ∨ (choice = 0xFF ∧ ∀ m : PathSlot, m < i → (s.paths.get m).life ≠ .vacant)) →
    exec (.pathAdd (pathAddBytes choice line tag nominal presence asymmetry k spike interval timeout)) s = .next { s with
      cmp := s.answered (pathAddBytes choice line tag nominal presence asymmetry k spike interval timeout) 0x10
        (if 20000000 < nominal.toNat
            ∨ (presence.getLsbD 0 = true ∧ (asymmetry.toInt < -1000000 ∨ 1000000 < asymmetry.toInt))
            ∨ (presence.getLsbD 1 = true ∧ 7 < k.toNat)
            ∨ (presence.getLsbD 2 = true ∧ (spike.toNat < 1000 ∨ 1000000 < spike.toNat))
            ∨ (presence.getLsbD 3 = true ∧ (interval.toNat < 1 ∨ 1000 < interval.toNat))
            ∨ (presence.getLsbD 4 = true ∧ 5 < timeout.toNat) then .adjusted else .done)
        [byteOf i.val]
      paths := s.paths.set i
        { life := .trial, line := line, tag := tag
          tuning :=
            { nominal := min nominal.toNat 20000000
              asymmetry := if presence.getLsbD 0 then max (-1000000) (min asymmetry.toInt 1000000) else 0
              shift := if presence.getLsbD 1 then min k.toNat 7 else 3
              spike := if presence.getLsbD 2 then max 1000 (min spike.toNat 1000000) else 50000
              interval := if presence.getLsbD 3 then max 1 (min interval.toNat 1000) else 20
              timeout := if presence.getLsbD 4 then min timeout.toNat 5 else 0 }
          est := .empty, e := 0, j := 0, age := 0, outlierRun := .none, goodCount := 0, trialFailed := false
          weather := ⟨.clear, 0, 0, 0, 0, (s.lines.get line).grade, 0⟩
          queued := 0, wins := 0, counters := ⟨0, 0, 0, 0, 0, 0, 0⟩ }
      su := { s.su with
        nextDue := s.su.nextDue.set i (some (s.clock / 400))
        due := s.su.due.erase i.val
        waiting := s.su.waiting.erase i.val } }

/-- The refusals of the path commands: a slot, line or tag outside its encoding is MALFORMED, an identity or slot already held IN-USE, no VACANT slot NO-SLOT, a VACANT slot
NOT-FOUND, and a lifecycle that the command does not take WRONG-STATE; a PATH-READ of a slot above 31 is MALFORMED (R3, R4). Every unit stays as it was. -/
def Obligations.PathCommandsRefuse : Prop :=
  (∀ (s : State) (choice line : Byte) (tag : BitVec 16) (rest : List Byte), s.cmp.engine = .idle → rest.length = 17 →
    let body := [choice, line] ++ beBytes 2 tag.toNat ++ rest
    ((31 < choice.toNat ∧ choice ≠ 0xFF) ∨ 5 < line.toNat ∨ 4095 < tag.toNat →
      exec (.pathAdd body) s = .next { s with cmp := s.answered body 0x10 .malformed [] })
    ∧ ((choice.toNat ≤ 31 ∨ choice = 0xFF) ∧ line.toNat ≤ 5 ∧ tag.toNat ≤ 4095 →
        ((∃ m : PathSlot, (s.paths.get m).life ≠ .vacant ∧ (s.paths.get m).line.val = line.toNat ∧ (s.paths.get m).tag.toNat = tag.toNat) →
          exec (.pathAdd body) s = .next { s with cmp := s.answered body 0x10 .inUse [] })
        ∧ ((∀ m : PathSlot, (s.paths.get m).life ≠ .vacant → ¬ ((s.paths.get m).line.val = line.toNat ∧ (s.paths.get m).tag.toNat = tag.toNat)) →
          (choice = 0xFF ∧ (∀ m : PathSlot, (s.paths.get m).life ≠ .vacant) →
            exec (.pathAdd body) s = .next { s with cmp := s.answered body 0x10 .noSlot [] })
          ∧ ∀ m : PathSlot, choice = byteOf m.val → (s.paths.get m).life ≠ .vacant →
            exec (.pathAdd body) s = .next { s with cmp := s.answered body 0x10 .inUse [] })))
  ∧ (∀ (s : State) (slot : Byte) (rest : List Byte) (c : Instr) (code : Byte) (takes : List Lifecycle), s.cmp.engine = .idle →
    ((c = .pathSet (slot :: rest) ∧ code = 0x11 ∧ rest.length = 17 ∧ takes = [.trial, .inService, .held])
      ∨ (c = .pathHold [slot] ∧ code = 0x12 ∧ rest = [] ∧ takes = [.inService])
      ∨ (c = .pathRelease [slot] ∧ code = 0x13 ∧ rest = [] ∧ takes = [.held])
      ∨ (c = .pathRequalify [slot] ∧ code = 0x14 ∧ rest = [] ∧ takes = [.inService, .held])
      ∨ (c = .pathRetire [slot] ∧ code = 0x15 ∧ rest = [] ∧ takes = [.trial, .inService, .held])) →
    (31 < slot.toNat → exec c s = .next { s with cmp := s.answered (slot :: rest) code .malformed [] })
    ∧ ∀ i : PathSlot, slot = byteOf i.val →
      ((s.paths.get i).life = .vacant → exec c s = .next { s with cmp := s.answered (slot :: rest) code .notFound [] })
      ∧ ((s.paths.get i).life ≠ .vacant → (s.paths.get i).life ∉ takes →
          exec c s = .next { s with cmp := s.answered (slot :: rest) code .wrongState [] }))
  ∧ ∀ (s : State) (slot options : Byte), s.cmp.engine = .idle → 31 < slot.toNat →
    exec (.pathRead [slot, options]) s = .next { s with cmp := s.answered [slot, options] 0x16 .malformed [] }

/-- PATH-SET on a TRIAL, IN SERVICE or HELD path: each field carried is brought into its range and written, each other field keeps its value, and the answer carries the six as kept
(R16). Nothing else of the path, and nothing else, changes. That nominal delay and spike limit are read as unsigned numbers is the model's (log 21). -/
def Obligations.PathSetWritesTheCarriedFields : Prop :=
  ∀ (s : State) (i : PathSlot) (presence : Byte) (nominal asymmetry : BitVec 32) (k : Byte) (spike : BitVec 32) (interval : BitVec 16) (timeout : Byte),
    s.cmp.engine = .idle → (s.paths.get i).measured = true →
    let body := [byteOf i.val, presence] ++ beBytes 4 nominal.toNat ++ beBytes 4 asymmetry.toNat ++ [k] ++ beBytes 4 spike.toNat
      ++ beBytes 2 interval.toNat ++ [timeout]
    let old := (s.paths.get i).tuning
    let new : Tuning :=
      { nominal := if presence.getLsbD 0 then min nominal.toNat 20000000 else old.nominal
        asymmetry := if presence.getLsbD 1 then max (-1000000) (min asymmetry.toInt 1000000) else old.asymmetry
        shift := if presence.getLsbD 2 then min k.toNat 7 else old.shift
        spike := if presence.getLsbD 3 then max 1000 (min spike.toNat 1000000) else old.spike
        interval := if presence.getLsbD 4 then max 1 (min interval.toNat 1000) else old.interval
        timeout := if presence.getLsbD 5 then min timeout.toNat 5 else old.timeout }
    exec (.pathSet body) s = .next { s with
      cmp := s.answered body 0x11
        (if (presence.getLsbD 0 = true ∧ 20000000 < nominal.toNat)
            ∨ (presence.getLsbD 1 = true ∧ (asymmetry.toInt < -1000000 ∨ 1000000 < asymmetry.toInt))
            ∨ (presence.getLsbD 2 = true ∧ 7 < k.toNat)
            ∨ (presence.getLsbD 3 = true ∧ (spike.toNat < 1000 ∨ 1000000 < spike.toNat))
            ∨ (presence.getLsbD 4 = true ∧ (interval.toNat < 1 ∨ 1000 < interval.toNat))
            ∨ (presence.getLsbD 5 = true ∧ 5 < timeout.toNat) then .adjusted else .done)
        (beBytes 4 new.nominal ++ beBytes 4 (BitVec.ofInt 32 new.asymmetry).toNat ++ [byteOf new.shift] ++ beBytes 4 new.spike
          ++ beBytes 2 new.interval ++ [byteOf new.timeout])
      paths := s.paths.set i { s.paths.get i with tuning := new } }

/-- PATH-HOLD from IN SERVICE and PATH-RELEASE from HELD change the lifecycle alone, at once; a held path is eligible for no feed, and a released one is eligible exactly if it is a
member, its estimate is VALID, its weather is not FADED and its line has carrier with transmit enabled. PATH-REQUALIFY from IN SERVICE or HELD returns the path to TRIAL with an EMPTY
estimate and a good count of 0. Each answers DONE and leaves everything else as it was (R8, R9, R11). -/
def Obligations.LifecycleCommandsMoveThePath : Prop :=
  (∀ (s : State) (i : PathSlot), s.cmp.engine = .idle → (s.paths.get i).life = .inService →
    ∃ t, exec (.pathHold [byteOf i.val]) s = .next t
      ∧ t = { s with cmp := s.answered [byteOf i.val] 0x12 .done [], paths := s.paths.set i { s.paths.get i with life := .held } }
      ∧ ∀ set : FlagSet 32, t.eligible set i = false)
  ∧ (∀ (s : State) (i : PathSlot), s.cmp.engine = .idle → (s.paths.get i).life = .held →
    ∃ t, exec (.pathRelease [byteOf i.val]) s = .next t
      ∧ t = { s with cmp := s.answered [byteOf i.val] 0x13 .done [], paths := s.paths.set i { s.paths.get i with life := .inService } }
      ∧ ∀ set : FlagSet 32, t.eligible set i = true ↔
          set.mem i.val = true ∧ (s.paths.get i).est = .valid ∧ (s.paths.get i).weather.state ≠ .faded
            ∧ (s.lines.get (s.paths.get i).line).grade ≠ 0 ∧ (s.lines.get (s.paths.get i).line).txEnable = true)
  ∧ ∀ (s : State) (i : PathSlot), s.cmp.engine = .idle → (s.paths.get i).life = .inService ∨ (s.paths.get i).life = .held →
    exec (.pathRequalify [byteOf i.val]) s = .next { s with
      cmp := s.answered [byteOf i.val] 0x14 .done []
      paths := s.paths.set i { s.paths.get i with
        life := .trial, est := .empty, e := 0, j := 0, age := 0, outlierRun := .none, goodCount := 0, trialFailed := false } }

/-- PATH-RETIRE, taken from TRIAL, IN SERVICE or HELD, answers DONE. The path is WITHDRAWING with its record kept, or vacant with PATH WITHDRAWN when nothing is queued for it; its
contexts are freed with their SOUNDs not yet started, and its due time, due state and waiting place are gone; every OUTBOUND feed has forgotten it, with one notice PATH GONE taken by NU
for each feed whose lead it was, in increasing order of feed slot. Then the freed contexts are handed on, and nothing else changes: other paths keep all but their counters, other
contexts stay, and no queue, grade, timer or setting of a line changes (R12, R13, R15, R28, R36). That the hand-over comes last is the model's (log 26). -/
def Obligations.PathRetireWithdrawsThePath : Prop :=
  ∀ (s : State) (i : PathSlot), s.cmp.engine = .idle → (s.paths.get i).measured = true →
    let p := s.paths.get i
    let led (k : FeedSlot) : Bool := (s.feeds.get k).opened && decide ((s.feeds.get k).direction = .outbound) && decide ((s.feeds.get k).out.lead = some i)
    let told : NoticeUnit :=
      (List.finRange 64).foldl (fun n k => if led k then n.take ⟨k, (s.feeds.get k).number, some i, none, .pathGone, s.tb.time⟩ else n) s.nu
    ∃ u t : State, exec (.pathRetire [byteOf i.val]) s = .next t ∧ t = u.serve
      ∧ u = { s with
          cmp := s.answered [byteOf i.val] 0x15 .done []
          paths := s.paths.set i (if p.queued = 0 then .vacant else { p with life := .withdrawing })
          su := { contexts := u.su.contexts, nextDue := s.su.nextDue.set i none, due := s.su.due.erase i.val, waiting := s.su.waiting.erase i.val
                  nextId := s.su.nextId, jitter := s.su.jitter }
          lines := u.lines
          feeds := u.feeds
          nu := if p.queued = 0 then
              { told with flags := told.flags.insert 5, pathSets := told.pathSets.set 5 ((told.pathSets.get 5).insert i.val) }
            else told }
      ∧ (∀ (c : ContextId) (x : Context), u.su.contexts.get c = some x ↔ s.su.contexts.get c = some x ∧ x.path ≠ i)
      ∧ (∀ l : Line, u.lines.get l = { s.lines.get l with
          sounds := (s.lines.get l).sounds.filter fun e => (s.su.contexts.get e.context).all fun x => x.path ≠ i })
      ∧ (∀ k : FeedSlot, u.feeds.get k =
          if (s.feeds.get k).opened = true ∧ (s.feeds.get k).direction = .outbound then
            { s.feeds.get k with out := { (s.feeds.get k).out with
                pathSet := (s.feeds.get k).out.pathSet.erase i.val
                pin := if (s.feeds.get k).out.pin = some i then none else (s.feeds.get k).out.pin
                lead := if (s.feeds.get k).out.lead = some i then none else (s.feeds.get k).out.lead } }
          else s.feeds.get k)
      ∧ t = { u with paths := t.paths, su := t.su, lines := t.lines }
      ∧ t.paths.get i = u.paths.get i
      ∧ (∀ m : PathSlot, m ≠ i → t.paths.get m = { s.paths.get m with counters := { (s.paths.get m).counters with
          soundingsSent := (t.paths.get m).counters.soundingsSent, soundingsDeferred := (t.paths.get m).counters.soundingsDeferred } })
      ∧ (∀ (c : ContextId) (x : Context), t.su.contexts.get c = some x → x.path ≠ i)
      ∧ (∀ (c : ContextId) (x : Context), s.su.contexts.get c = some x → x.path ≠ i →
          ∃ y, t.su.contexts.get c = some y ∧ y = { x with t1 := y.t1, deadline := y.deadline })
      ∧ t.su.nextDue.get i = none ∧ t.su.due.mem i.val = false ∧ t.su.waiting.mem i.val = false
      ∧ (∀ m : PathSlot, s.su.due.mem m.val = false → t.su.nextDue.get m = if m = i then none else s.su.nextDue.get m)
      ∧ ∀ l : Line, (t.lines.get l).frames = (s.lines.get l).frames
          ∧ t.lines.get l = { s.lines.get l with
              ratioCount := (t.lines.get l).ratioCount, tx := (t.lines.get l).tx, echoes := (t.lines.get l).echoes, sounds := (t.lines.get l).sounds
              counters := { (s.lines.get l).counters with echoesSent := (t.lines.get l).counters.echoesSent } }

/-- A path record as PATH-READ answers it: the fields in the order of R17 at the widths and codes of R171; the order of an outlier run's sign and count is the model's (log 15). -/
def pathRecord (p : Path) : List Byte :=
  ([match p.life with | .vacant => 0 | .trial => 1 | .inService => 2 | .held => 3 | .withdrawing => 4, byteOf p.line.val, if p.line.val < 4 then 0 else 1] : List Byte)
    ++ beBytes 2 p.tag.toNat ++ beBytes 4 p.tuning.nominal ++ beBytes 4 (BitVec.ofInt 32 p.tuning.asymmetry).toNat ++ [byteOf p.tuning.shift]
    ++ beBytes 4 p.tuning.spike ++ beBytes 2 p.tuning.interval ++ [byteOf p.tuning.timeout]
    ++ ([match p.est with | .empty => 0 | .valid => 1 | .stale => 2] : List Byte) ++ beBytes 4 p.e ++ beBytes 4 p.j ++ beBytes 2 p.age.toNat
    ++ ((match p.outlierRun with | .none => [0, 0] | .one .above => [1, 1] | .one .below => [2, 1] | .two .above => [1, 2] | .two .below => [2, 2]) : List Byte)
    ++ ([byteOf p.goodCount, if p.trialFailed then 1 else 0] : List Byte)
    ++ ([match p.weather.state with | .clear => 0 | .marginal => 1 | .faded => 2 | .mending => 3] : List Byte)
    ++ beBytes 2 p.weather.goodFrames.toNat ++ beBytes 2 p.weather.erroredFrames.toNat ++ beBytes 2 p.weather.goodResults.toNat
    ++ beBytes 2 p.weather.lostSoundings.toNat ++ [byteOf p.weather.minGrade.val, p.weather.run] ++ beBytes 2 p.queued ++ beBytes 4 p.wins.toNat
    ++ beBytes 4 p.counters.soundingsSent.toNat ++ beBytes 4 p.counters.soundingsDeferred.toNat ++ beBytes 4 p.counters.echoesGood.toNat
    ++ beBytes 4 p.counters.soundingsLost.toNat ++ beBytes 4 p.counters.outliers.toNat ++ beBytes 4 p.counters.reseeds.toNat
    ++ beBytes 4 p.counters.copiesSent.toNat

/-- A class as a byte (11.5). -/
def classByte (c : Urgency) : Byte := match c with | .normal => 0 | .urgent => 1

/-- A feed record as FEED-READ answers it (R82, R96, R129, R171); direction and number in front, and an expected sequence of 0 under ADOPT, are the model's (log 15). The seen map has the
flag of number H - w + 1 at bit 0. -/
def feedRecord (f : Feed) : List Byte :=
  match f.direction with
  | .outbound => [0] ++ beBytes 2 f.number.toNat ++ [byteOf f.out.port.val] ++ beBytes 4 f.out.pathSet.toNat
      ++ [if f.out.twoCopies then 2 else 1, slotByteOf f.out.pin] ++ beBytes 2 f.out.rateLimit.toNat ++ [classByte f.out.defaultUrgency, classByte f.out.ceiling]
      ++ beBytes 4 f.out.nextSeq.toNat ++ [slotByteOf f.out.lead] ++ beBytes 2 f.out.rateCount.toNat
      ++ beBytes 4 f.out.counters.accepted.toNat ++ beBytes 4 f.out.counters.rateDrop.toNat ++ beBytes 4 f.out.counters.noPath.toNat
      ++ beBytes 4 f.out.counters.distressed.toNat ++ beBytes 4 f.out.counters.singleSends.toNat ++ beBytes 4 f.out.counters.busyDrop0.toNat
      ++ beBytes 4 f.out.counters.busyDrop1.toNat
  | .inbound =>
    let w := 2 ^ f.inb.sizeCode
    let seen (k : Nat) : Bool := f.inb.window.seen.getLsbD ((f.inb.window.high - BitVec.ofNat 32 w + 1 + BitVec.ofNat 32 k).toNat % w)
    [1] ++ beBytes 2 f.number.toNat ++ [byteOf f.inb.mask.toNat, byteOf f.inb.sizeCode]
      ++ (match f.inb.start with | .adopt => [0, 0, 0, 0, 0] | .expect e => [1] ++ beBytes 4 e.toNat)
      ++ [if f.inb.window.live then 1 else 0] ++ beBytes 4 f.inb.window.high.toNat ++ [byteOf f.inb.window.tooOldRun]
      ++ beBytes (w / 8) (((List.range w).map fun k => if seen k then 2 ^ k else 0).sum)
      ++ beBytes 4 f.inb.counters.delivered.toNat ++ beBytes 4 f.inb.counters.lost.toNat ++ beBytes 4 f.inb.counters.duplicates.toNat
      ++ beBytes 4 f.inb.counters.lateFills.toNat ++ beBytes 4 f.inb.counters.tooOld.toNat ++ beBytes 4 f.inb.counters.restarts.toNat
      ++ beBytes 4 f.inb.counters.deliveryDrop.toNat

/-- The frame in transmission on a line, as a member of the queue of class `c` it came from (R99). -/
def sendingOf (p : LinePort) (c : Urgency) : List QueuedFrame :=
  match p.tx with
  | some ⟨.traffic q f, _, _, _, _⟩ => if q = c then [f] else []
  | _ => []

/-- A line as LINE-READ answers it: the items of R113 in its order, its counters in the order in which R113 names them, at the widths of R171; the place of the counters R113 does not
name, and of carrier, grade, and presence or lock (R75), is the model's (log 15). -/
def lineRecord (s : State) (l : Line) : List Byte :=
  let p := s.lines.get l
  let urgent := sendingOf p .urgent ++ p.urgent
  let normal := sendingOf p .normal ++ p.normal
  let cells (q : List QueuedFrame) : Nat := (q.map (·.cells)).sum
  let reserve : Nat := if s.settings.reserve then
      ((List.finRange 6).map fun m => 32 - cells (sendingOf (s.lines.get m) .urgent ++ (s.lines.get m).urgent)).sum
    else 0
  [if p.txEnable then 1 else 0, if p.rxEnable then 1 else 0, match p.ratio with | .strict => 0 | .eight => 1 | .four => 2 | .two => 3, byteOf p.ratioCount]
    ++ beBytes 2 urgent.length ++ beBytes 2 (cells urgent) ++ beBytes 2 normal.length ++ beBytes 2 (cells normal)
    ++ [if p.tx = none then 0 else 1, if sendingOf p .urgent ≠ [] then 1 else if sendingOf p .normal ≠ [] then 2 else 0]
    ++ beBytes 2 s.freeCells ++ beBytes 2 reserve
    ++ beBytes 4 p.counters.busyDrop.toNat ++ beBytes 4 p.counters.flushed.toNat ++ beBytes 4 p.counters.rxOff.toNat ++ beBytes 4 p.counters.framesSent.toNat
    ++ beBytes 4 p.counters.stray.toNat ++ beBytes 4 p.counters.badEcho.toNat ++ beBytes 4 p.counters.echoRefused.toNat ++ beBytes 4 p.counters.echoesSent.toNat
    ++ beBytes 4 p.counters.carrierLosses.toNat ++ beBytes 4 p.counters.statusTimeouts.toNat ++ beBytes 4 p.counters.statusDiscarded.toNat
    ++ beBytes 4 p.counters.noCarrier.toNat ++ beBytes 4 p.counters.badHeader.toNat ++ beBytes 4 p.counters.badPayload.toNat
    ++ beBytes 4 p.counters.unknownFeed.toNat
    ++ [if p.grade = 0 then 0 else 1, byteOf p.grade.val, if (if l.val < 4 then p.presence else p.lock) then 1 else 0]

/-- A local port as LINE-READ answers it: FIFO frames and the counters in the order of R154 (R154, R171, 11.5). -/
def portRecord (p : LocalPort) : List Byte :=
  [byteOf p.fifo.length] ++ beBytes 4 p.counters.badLength.toNat ++ beBytes 4 p.counters.oversize.toNat ++ beBytes 4 p.counters.unknownFeed.toNat
    ++ beBytes 4 p.counters.wrongPort.toNat ++ beBytes 4 p.counters.deliveryDrop.toNat ++ beBytes 4 p.counters.deliveredFrames.toNat

/-- The four reads with the clear-counters option: PATH-READ, FEED-READ, and LINE-READ of a line and of a local port return the record as it stands, and set its counters to 0 after
it exactly when the option is given; FEED-FIND returns the slot of the OPEN feed, and PATH-FIND the slot and lifecycle of the path outside VACANT, or NOT-FOUND
(R17, R18, R82, R113, R154). A LINE-READ of a byte that names no line or port is MALFORMED. Nothing else changes. The records are spelled field by field; their order is the model's
where the spec leaves it open (log 15). -/
def Obligations.ReadsReturnTheRecordAndClear : Prop :=
  (∀ (s : State) (i : PathSlot) (options : Byte), s.cmp.engine = .idle →
    exec (.pathRead [byteOf i.val, options]) s = .next { s with
      cmp := s.answered [byteOf i.val, options] 0x16 .done (pathRecord (s.paths.get i))
      paths := if options.getLsbD 0 then s.paths.set i { s.paths.get i with counters := ⟨0, 0, 0, 0, 0, 0, 0⟩, wins := 0 } else s.paths })
  ∧ (∀ (s : State) (k : FeedSlot) (options : Byte), s.cmp.engine = .idle →
    exec (.feedRead [byteOf k.val, options]) s = .next { s with
      cmp := s.answered [byteOf k.val, options] 0x23 .done (feedRecord (s.feeds.get k))
      feeds := if options.getLsbD 0 then
          s.feeds.set k { s.feeds.get k with
            out := { (s.feeds.get k).out with counters := ⟨0, 0, 0, 0, 0, 0, 0⟩ }
            inb := { (s.feeds.get k).inb with counters := ⟨0, 0, 0, 0, 0, 0, 0⟩ } }
        else s.feeds })
  ∧ (∀ (s : State) (l : Line) (options : Byte), s.cmp.engine = .idle →
    exec (.lineRead [byteOf l.val, options]) s = .next { s with
      cmp := s.answered [byteOf l.val, options] 0x33 .done (lineRecord s l)
      lines := if options.getLsbD 0 then
          s.lines.set l { s.lines.get l with counters := ⟨0, 0, 0, 0, 0, 0, 0, 0, 0, 0, 0, 0, 0, 0, 0⟩ }
        else s.lines })
  ∧ (∀ (s : State) (p : Port) (options : Byte), s.cmp.engine = .idle →
    exec (.lineRead [byteOf (16 + p.val), options]) s = .next { s with
      cmp := s.answered [byteOf (16 + p.val), options] 0x33 .done (portRecord (s.ports.get p))
      ports := if options.getLsbD 0 then s.ports.set p { s.ports.get p with counters := ⟨0, 0, 0, 0, 0, 0⟩ } else s.ports })
  ∧ (∀ (s : State) (direction : Direction) (number : BitVec 16), s.cmp.engine = .idle → number ≠ 0 → s.NumbersUnique →
    let body := [direction.byte] ++ beBytes 2 number.toNat
    (∀ k : FeedSlot, (s.feeds.get k).opened = true → (s.feeds.get k).direction = direction → (s.feeds.get k).number = number →
      exec (.feedFind body) s = .next { s with cmp := s.answered body 0x24 .done [byteOf k.val] })
    ∧ ((∀ k : FeedSlot, ¬ ((s.feeds.get k).opened = true ∧ (s.feeds.get k).direction = direction ∧ (s.feeds.get k).number = number)) →
      exec (.feedFind body) s = .next { s with cmp := s.answered body 0x24 .notFound [] }))
  ∧ (∀ (s : State) (name options : Byte), s.cmp.engine = .idle → (5 < name.toNat ∧ name.toNat < 16) ∨ 19 < name.toNat →
    exec (.lineRead [name, options]) s = .next { s with cmp := s.answered [name, options] 0x33 .malformed [] })
  ∧ ∀ (s : State) (line : Byte) (tag : BitVec 16), s.cmp.engine = .idle →
    let body := [line] ++ beBytes 2 tag.toNat
    (5 < line.toNat ∨ 4095 < tag.toNat → exec (.pathFind body) s = .next { s with cmp := s.answered body 0x17 .malformed [] })
    ∧ (line.toNat ≤ 5 → tag.toNat ≤ 4095 →
        (∀ i : PathSlot, s.IdentitiesUnique → (s.paths.get i).life ≠ .vacant → (s.paths.get i).line.val = line.toNat →
          (s.paths.get i).tag.toNat = tag.toNat →
          exec (.pathFind body) s = .next { s with cmp := s.answered body 0x17 .done [byteOf i.val, (s.paths.get i).life.byte] })
        ∧ ((∀ i : PathSlot, (s.paths.get i).life ≠ .vacant → ¬ ((s.paths.get i).line.val = line.toNat ∧ (s.paths.get i).tag.toNat = tag.toNat)) →
          exec (.pathFind body) s = .next { s with cmp := s.answered body 0x17 .notFound [] }))

/-! ### Feed commands -/

/-- The bytes of an OUTBOUND FEED-OPEN after its code (11.5). -/
def feedOpenOutBytes (choice : Byte) (number : BitVec 16) (port : Port) (set : FlagSet 32) (two : Bool) (presence pin : Byte) (rate : BitVec 16)
    (urgency ceiling : Byte) (start : Seq) : List Byte :=
  [choice, 0] ++ beBytes 2 number.toNat ++ [byteOf port.val] ++ beBytes 4 set.toNat ++ [if two then 2 else 1, presence, pin]
    ++ beBytes 2 rate.toNat ++ [urgency, ceiling] ++ beBytes 4 start.toNat

/-- The bytes of an INBOUND FEED-OPEN after its code (11.5). -/
def feedOpenInBytes (choice : Byte) (number : BitVec 16) (mask : Byte) (size : Fin 5) (start : StartMode) (unread : BitVec 32) : List Byte :=
  [choice, 1] ++ beBytes 2 number.toNat ++ [mask, byteOf (4 + size.val)]
    ++ (match start with
        | .adopt => [0] ++ beBytes 4 unread.toNat
        | .expect e => [1] ++ beBytes 4 e.toNat)

/-- FEED-OPEN of a free number into the named CLOSED slot, or under ANY into the lowest CLOSED one. OUTBOUND: members outside TRIAL, IN SERVICE and HELD are dropped, then a pin
outside the set (ADJUSTED); fields not carried take their closed values. INBOUND: mask, size and start mode are written, with an EMPTY window. Nothing else changes (R78, R79). That a carried pin of FFh is
an absent pin is the model's reading (log 21). -/
def Obligations.FeedOpenOpensTheSlot : Prop :=
  (∀ (s : State) (k : FeedSlot) (choice : Byte) (number : BitVec 16) (port : Port) (set kept : FlagSet 32) (two : Bool) (presence : Byte)
    (pin : Option PathSlot) (pinByte : Byte) (rate : BitVec 16) (urgency ceiling : Urgency) (urgencyByte ceilingByte : Byte) (start : Seq),
    s.cmp.engine = .idle → number ≠ 0 →
    (∀ m : FeedSlot, (s.feeds.get m).opened = true → ¬ ((s.feeds.get m).direction = .outbound ∧ (s.feeds.get m).number = number)) →
    (s.feeds.get k).opened = false →
    (choice = byteOf k.val ∨ (choice = 0xFF ∧ ∀ m : FeedSlot, m < k → (s.feeds.get m).opened = true)) →
    (∀ i : PathSlot, kept.mem i.val = true ↔ set.mem i.val = true ∧ (s.paths.get i).measured = true) →
    (if presence.getLsbD 0 then pinByte = slotByteOf pin else pin = none) →
    (if presence.getLsbD 2 then urgencyByte = urgency.byte else urgency = .normal) →
    (if presence.getLsbD 3 then ceilingByte = ceiling.byte else ceiling = .urgent) →
    let body := feedOpenOutBytes choice number port set two presence pinByte rate urgencyByte ceilingByte start
    let keptPin := pin.filter fun i => kept.mem i.val
    exec (.feedOpen body) s = .next { s with
      cmp := s.answered body 0x20 (if kept ≠ set ∨ keptPin ≠ pin then .adjusted else .done) ([byteOf k.val] ++ beBytes 4 kept.toNat ++ [slotByteOf keptPin])
      feeds := s.feeds.set k
        { opened := true, direction := .outbound, number := number
          out :=
            { port := port, pathSet := kept, twoCopies := two, pin := keptPin, rateLimit := if presence.getLsbD 1 then rate else 0
              defaultUrgency := urgency, ceiling := ceiling, nextSeq := if presence.getLsbD 4 then start else 1, lead := none, rateCount := 0
              counters := ⟨0, 0, 0, 0, 0, 0, 0⟩ }
          inb := ⟨0, 4, .adopt, ⟨false, 0, 0, 0⟩, ⟨0, 0, 0, 0, 0, 0, 0⟩⟩ } })
  ∧ ∀ (s : State) (k : FeedSlot) (choice : Byte) (number : BitVec 16) (mask : Byte) (size : Fin 5) (start : StartMode) (unread : BitVec 32),
    s.cmp.engine = .idle → number ≠ 0 →
    (∀ m : FeedSlot, (s.feeds.get m).opened = true → ¬ ((s.feeds.get m).direction = .inbound ∧ (s.feeds.get m).number = number)) →
    (s.feeds.get k).opened = false →
    (choice = byteOf k.val ∨ (choice = 0xFF ∧ ∀ m : FeedSlot, m < k → (s.feeds.get m).opened = true)) →
    mask.setWidth 4 ≠ 0 →
    let body := feedOpenInBytes choice number mask size start unread
    exec (.feedOpen body) s = .next { s with
      cmp := s.answered body 0x20 .done [byteOf k.val]
      feeds := s.feeds.set k
        { opened := true, direction := .inbound, number := number
          out := ⟨0, 0, false, none, 0, .normal, .urgent, 1, none, 0, ⟨0, 0, 0, 0, 0, 0, 0⟩⟩
          inb := ⟨mask.setWidth 4, 4 + size.val, start, ⟨false, 0, 0, 0⟩, ⟨0, 0, 0, 0, 0, 0, 0⟩⟩ } }

/-- The refusals of the feed commands, in the order of their checks: MALFORMED encodings of FEED-OPEN and FEED-SET in either direction (a direction byte other than 0 or 1; fields not
carried are not checked), of FEED-CLOSE, FEED-READ, FEED-FIND and RANK-READ; a number or slot already OPEN IN-USE, no CLOSED slot NO-SLOT, a CLOSED slot NOT-FOUND, FEED-SET of the other
direction MALFORMED, RANK-READ of an INBOUND feed WRONG-STATE (R78, R80, R81, R82, R95, R166). Every unit stays as it was. That a carried pin of FFh is an absent pin, and no fault, is the
model's reading (log 21). -/
def Obligations.FeedCommandsRefuse : Prop :=
  (∀ (s : State) (first direction : Byte) (rest : List Byte), s.cmp.engine = .idle → 1 < direction.toNat →
    exec (.feedOpen (first :: direction :: rest)) s = .next { s with cmp := s.answered (first :: direction :: rest) 0x20 .malformed [] }
    ∧ exec (.feedSet (first :: direction :: rest)) s = .next { s with cmp := s.answered (first :: direction :: rest) 0x21 .malformed [] })
  ∧ (∀ (s : State) (choice : Byte) (number : BitVec 16) (mask : Byte) (size : Byte) (start : Byte) (expected : BitVec 32), s.cmp.engine = .idle →
    let body := [choice, 1] ++ beBytes 2 number.toNat ++ [mask, size, start] ++ beBytes 4 expected.toNat
    ((63 < choice.toNat ∧ choice ≠ 0xFF) ∨ number = 0 ∨ mask.setWidth 4 = 0#4 ∨ size.toNat < 4 ∨ 8 < size.toNat ∨ 1 < start.toNat →
      exec (.feedOpen body) s = .next { s with cmp := s.answered body 0x20 .malformed [] })
    ∧ ((choice.toNat ≤ 63 ∨ choice = 0xFF) → number ≠ 0 → mask.setWidth 4 ≠ 0#4 → 4 ≤ size.toNat → size.toNat ≤ 8 → start.toNat ≤ 1 →
        ((∃ m : FeedSlot, (s.feeds.get m).opened = true ∧ (s.feeds.get m).direction = .inbound ∧ (s.feeds.get m).number = number) →
          exec (.feedOpen body) s = .next { s with cmp := s.answered body 0x20 .inUse [] })
        ∧ ((∀ m : FeedSlot, (s.feeds.get m).opened = true → ¬ ((s.feeds.get m).direction = .inbound ∧ (s.feeds.get m).number = number)) →
          (choice = 0xFF → (∀ m : FeedSlot, (s.feeds.get m).opened = true) →
            exec (.feedOpen body) s = .next { s with cmp := s.answered body 0x20 .noSlot [] })
          ∧ ∀ m : FeedSlot, choice = byteOf m.val → (s.feeds.get m).opened = true →
            exec (.feedOpen body) s = .next { s with cmp := s.answered body 0x20 .inUse [] })))
  ∧ (∀ (s : State) (choice : Byte) (number : BitVec 16) (port : Byte) (set : FlagSet 32) (copies presence pin : Byte) (rate : BitVec 16)
    (urgency ceiling : Byte) (start : Seq), s.cmp.engine = .idle →
    let body := [choice, 0] ++ beBytes 2 number.toNat ++ [port] ++ beBytes 4 set.toNat ++ [copies, presence, pin] ++ beBytes 2 rate.toNat
      ++ [urgency, ceiling] ++ beBytes 4 start.toNat
    let malformed : Prop := (63 < choice.toNat ∧ choice ≠ 0xFF) ∨ number = 0 ∨ 3 < port.toNat ∨ (copies ≠ 1 ∧ copies ≠ 2)
      ∨ (presence.getLsbD 0 = true ∧ 31 < pin.toNat ∧ pin ≠ 0xFF) ∨ (presence.getLsbD 2 = true ∧ 1 < urgency.toNat)
      ∨ (presence.getLsbD 3 = true ∧ 1 < ceiling.toNat)
    (malformed → exec (.feedOpen body) s = .next { s with cmp := s.answered body 0x20 .malformed [] })
    ∧ (¬ malformed →
        ((∃ m : FeedSlot, (s.feeds.get m).opened = true ∧ (s.feeds.get m).direction = .outbound ∧ (s.feeds.get m).number = number) →
          exec (.feedOpen body) s = .next { s with cmp := s.answered body 0x20 .inUse [] })
        ∧ ((∀ m : FeedSlot, (s.feeds.get m).opened = true → ¬ ((s.feeds.get m).direction = .outbound ∧ (s.feeds.get m).number = number)) →
          (choice = 0xFF → (∀ m : FeedSlot, (s.feeds.get m).opened = true) →
            exec (.feedOpen body) s = .next { s with cmp := s.answered body 0x20 .noSlot [] })
          ∧ ∀ m : FeedSlot, choice = byteOf m.val → (s.feeds.get m).opened = true →
            exec (.feedOpen body) s = .next { s with cmp := s.answered body 0x20 .inUse [] })))
  ∧ (∀ (s : State) (slot presence : Byte) (set : FlagSet 32) (copies pin : Byte) (rate : BitVec 16) (urgency ceiling : Byte), s.cmp.engine = .idle →
    let body := [slot, 0, presence] ++ beBytes 4 set.toNat ++ [copies, pin] ++ beBytes 2 rate.toNat ++ [urgency, ceiling]
    let malformed : Prop := 63 < slot.toNat ∨ (presence.getLsbD 1 = true ∧ copies ≠ 1 ∧ copies ≠ 2)
      ∨ (presence.getLsbD 2 = true ∧ 31 < pin.toNat ∧ pin ≠ 0xFF) ∨ (presence.getLsbD 4 = true ∧ 1 < urgency.toNat)
      ∨ (presence.getLsbD 5 = true ∧ 1 < ceiling.toNat)
    (malformed → exec (.feedSet body) s = .next { s with cmp := s.answered body 0x21 .malformed [] })
    ∧ (¬ malformed → ∀ k : FeedSlot, slot = byteOf k.val →
        ((s.feeds.get k).opened = false → exec (.feedSet body) s = .next { s with cmp := s.answered body 0x21 .notFound [] })
        ∧ ((s.feeds.get k).opened = true → (s.feeds.get k).direction = .inbound →
            exec (.feedSet body) s = .next { s with cmp := s.answered body 0x21 .malformed [] })))
  ∧ (∀ (s : State) (direction : Byte) (number : BitVec 16), s.cmp.engine = .idle → 1 < direction.toNat ∨ number = 0 →
    exec (.feedFind ([direction] ++ beBytes 2 number.toNat)) s = .next { s with cmp := s.answered ([direction] ++ beBytes 2 number.toNat) 0x24 .malformed [] })
  ∧ ∀ (s : State) (slot : Byte), s.cmp.engine = .idle →
    (63 < slot.toNat →
      exec (.feedClose [slot]) s = .next { s with cmp := s.answered [slot] 0x22 .malformed [] }
      ∧ (∀ options : Byte, exec (.feedRead [slot, options]) s = .next { s with cmp := s.answered [slot, options] 0x23 .malformed [] }
          ∧ exec (.rankRead [slot, options]) s = .next { s with cmp := s.answered [slot, options] 0x26 .malformed [] })
      ∧ ∀ mask : Byte, exec (.feedSet [slot, 1, mask]) s = .next { s with cmp := s.answered [slot, 1, mask] 0x21 .malformed [] })
    ∧ (∀ mask : Byte, mask.setWidth 4 = 0#4 → exec (.feedSet [slot, 1, mask]) s = .next { s with cmp := s.answered [slot, 1, mask] 0x21 .malformed [] })
    ∧ ∀ k : FeedSlot, slot = byteOf k.val →
      ((s.feeds.get k).opened = false →
        exec (.feedClose [slot]) s = .next { s with cmp := s.answered [slot] 0x22 .notFound [] }
        ∧ (∀ options : Byte, exec (.rankRead [slot, options]) s = .next { s with cmp := s.answered [slot, options] 0x26 .notFound [] })
        ∧ ∀ mask : Byte, mask.setWidth 4 ≠ 0#4 → exec (.feedSet [slot, 1, mask]) s = .next { s with cmp := s.answered [slot, 1, mask] 0x21 .notFound [] })
      ∧ ((s.feeds.get k).opened = true → (s.feeds.get k).direction = .inbound → ∀ options : Byte,
          exec (.rankRead [slot, options]) s = .next { s with cmp := s.answered [slot, options] 0x26 .wrongState [] })
      ∧ ((s.feeds.get k).opened = true → (s.feeds.get k).direction = .outbound → ∀ mask : Byte,
          exec (.feedSet [slot, 1, mask]) s = .next { s with cmp := s.answered [slot, 1, mask] 0x21 .malformed [] })

/-- FEED-SET on an OPEN feed of its direction. INBOUND: the delivery mask alone is written. OUTBOUND: each field carried is written and the others kept, a new path set cleaned, a
pin outside the set dropped (ADJUSTED for a drop), a lead in the set kept, and a lead outside it made absent with one notice PATH GONE taken by NU. Next sequence, port, direction,
number, rate count, counters and window stay, and nothing else changes (R80, R91). That a carried pin of FFh is an absent pin is the model's reading (log 21). -/
def Obligations.FeedSetWritesTheCarriedFields : Prop :=
  (∀ (s : State) (k : FeedSlot) (mask : Byte), s.cmp.engine = .idle → (s.feeds.get k).opened = true → (s.feeds.get k).direction = .inbound →
    mask.setWidth 4 ≠ 0#4 →
    exec (.feedSet [byteOf k.val, 1, mask]) s = .next { s with
      cmp := s.answered [byteOf k.val, 1, mask] 0x21 .done [byteOf (mask.setWidth 4).toNat]
      feeds := s.feeds.set k { s.feeds.get k with inb := { (s.feeds.get k).inb with mask := mask.setWidth 4 } } })
  ∧ ∀ (s : State) (k : FeedSlot) (presence : Byte) (set kept : FlagSet 32) (two : Bool) (pin : Option PathSlot) (rate : BitVec 16)
    (urgency ceiling : Urgency),
    s.cmp.engine = .idle → (s.feeds.get k).opened = true → (s.feeds.get k).direction = .outbound →
    (∀ i : PathSlot, kept.mem i.val = true ↔ set.mem i.val = true ∧ (s.paths.get i).measured = true) →
    let body := [byteOf k.val, 0, presence] ++ beBytes 4 set.toNat ++ [if two then 2 else 1, slotByteOf pin] ++ beBytes 2 rate.toNat
      ++ [urgency.byte, ceiling.byte]
    let old := (s.feeds.get k).out
    let newSet := if presence.getLsbD 0 then kept else old.pathSet
    let newPin := (if presence.getLsbD 2 then pin else old.pin).filter fun i => newSet.mem i.val
    let newLead := old.lead.filter fun i => newSet.mem i.val
    exec (.feedSet body) s = .next { s with
      cmp := s.answered body 0x21
        (if (presence.getLsbD 0 = true ∧ kept ≠ set) ∨ newPin ≠ (if presence.getLsbD 2 then pin else old.pin) then .adjusted else .done)
        (beBytes 4 newSet.toNat ++ [slotByteOf newPin, slotByteOf newLead])
      feeds := s.feeds.set k { s.feeds.get k with out := { old with
        pathSet := newSet
        twoCopies := if presence.getLsbD 1 then two else old.twoCopies
        pin := newPin
        rateLimit := if presence.getLsbD 3 then rate else old.rateLimit
        defaultUrgency := if presence.getLsbD 4 then urgency else old.defaultUrgency
        ceiling := if presence.getLsbD 5 then ceiling else old.ceiling
        lead := newLead } }
      nu := if newLead = old.lead then s.nu else s.nu.take ⟨k, (s.feeds.get k).number, old.lead, none, .pathGone, s.tb.time⟩ }

/-- FEED-CLOSE of an OPEN slot answers DONE, returns the slot to the closed record and takes it out of the route-notice pending set; the latch, the queues, the cursor and
everything else stay (R81, R161). -/
def Obligations.FeedCloseClosesTheSlot : Prop :=
  ∀ (s : State) (k : FeedSlot), s.cmp.engine = .idle → (s.feeds.get k).opened = true →
    ∃ t, exec (.feedClose [byteOf k.val]) s = .next t
      ∧ t = { s with
          cmp := s.answered [byteOf k.val] 0x22 .done []
          feeds := s.feeds.set k
            ⟨false, .outbound, 0, ⟨0, 0, false, none, 0, .normal, .urgent, 1, none, 0, ⟨0, 0, 0, 0, 0, 0, 0⟩⟩,
              ⟨0, 4, .adopt, ⟨false, 0, 0, 0⟩, ⟨0, 0, 0, 0, 0, 0, 0⟩⟩⟩
          nu := { s.nu with queued := t.nu.queued } }
      ∧ ∀ m : FeedSlot, t.nu.queued.mem m.val = true ↔ s.nu.queued.mem m.val = true ∧ m ≠ k

/-- FEED-SCAN finds the first OPEN slot at or after the cursor, or after 0 with the restart option (bit 1 of its option byte): DONE with slot, direction and number, and the cursor
at the slot + 1 held at 63; if there is none, NOT-FOUND and the cursor at 63. The cursor is 0 after hardware reset and SOFT-RESET, and FEED-OPEN and FEED-CLOSE do not move it (R83). -/
def Obligations.FeedScanWalksTheOpenFeeds : Prop :=
  (∀ (s : State) (options : Byte), s.cmp.engine = .idle →
    let cursor : Fin 64 := if options.getLsbD 1 then 0 else s.scanCursor
    (∀ k : FeedSlot, cursor ≤ k → (s.feeds.get k).opened = true → (∀ m : FeedSlot, cursor ≤ m → m < k → (s.feeds.get m).opened = false) →
      ∃ next : Fin 64, next.val = min (k.val + 1) 63
        ∧ exec (.feedScan [options]) s = .next { s with
            cmp := s.answered [options] 0x25 .done ([byteOf k.val, (s.feeds.get k).direction.byte] ++ beBytes 2 (s.feeds.get k).number.toNat)
            scanCursor := next })
    ∧ ((∀ m : FeedSlot, cursor ≤ m → (s.feeds.get m).opened = false) →
        exec (.feedScan [options]) s = .next { s with cmp := s.answered [options] 0x25 .notFound [], scanCursor := 63 }))
  ∧ State.reset.scanCursor = 0
  ∧ (∀ (s t : State) (level : ResetLevel), (level ≠ .high ∨ s.cmp.engine = .held) → exec (.hardwareReset level) s = .next t → t.scanCursor = 0)
  ∧ (∀ s t : State, s.cmp.engine = .idle → exec (.softReset []) s = .next t → t.scanCursor = 0)
  ∧ ∀ (s t : State) (body : List Byte), exec (.feedOpen body) s = .next t ∨ exec (.feedClose body) s = .next t → t.scanCursor = s.scanCursor

/-- RANK-READ of an OPEN OUTBOUND feed answers the number of eligible paths, each one's slot and NORMAL cost in increasing order of cost with ties to the lower slot, and the stored
lead and pin; it changes no unit (R95). Which paths are eligible (R88), and their cost for a class: E in whole ns, the queue wait W up to 1,000,000 ns, the weather penalty, and J in whole
ns times the jitter factor (R52, R53, R54, R56). -/
def Obligations.RankReadRanksTheEligiblePaths : Prop :=
  (∀ (s : State) (k : FeedSlot) (options : Byte), s.cmp.engine = .idle → (s.feeds.get k).opened = true → (s.feeds.get k).direction = .outbound →
    ∃ order : List PathSlot,
      (∀ i : PathSlot, i ∈ order ↔ s.eligible (s.feeds.get k).out.pathSet i = true)
      ∧ order.Pairwise (fun i m => s.cost .normal i < s.cost .normal m ∨ (s.cost .normal i = s.cost .normal m ∧ i < m))
      ∧ exec (.rankRead [byteOf k.val, options]) s = .next { s with
          cmp := s.answered [byteOf k.val, options] 0x26 .done
            ([byteOf order.length] ++ order.flatMap (fun i => [byteOf i.val] ++ beBytes 4 (s.cost .normal i))
              ++ [slotByteOf (s.feeds.get k).out.lead, slotByteOf (s.feeds.get k).out.pin]) })
  ∧ ∀ (s : State) (i : PathSlot),
    let p := s.paths.get i
    let l := s.lines.get p.line
    (∀ set : FlagSet 32, s.eligible set i = true ↔
      set.mem i.val = true ∧ p.life = .inService ∧ p.est = .valid ∧ p.weather.state ≠ .faded ∧ l.grade ≠ 0 ∧ l.txEnable = true)
    ∧ ∀ c : Urgency,
      let ahead : Nat := match c with
        | .urgent => l.cells .urgent
        | .normal => l.cells .urgent + l.cells .normal
      s.cost c i =
        p.e / 16 + min (ahead * [0, 2560, 1707, 1280, 1024, 853, 640, 512][l.grade.val]!) 1000000
          + (if p.weather.state = .marginal ∨ p.weather.state = .mending then s.settings.marginPenalty else 0)
          + p.j / 16 * s.settings.jitterFactor

/-! ### Identity, seed, settings and lines -/

/-- IDENT-READ answers DONE with vendor 4856h, part 0316h, revision 01h and the capacities, whatever its option byte, and changes nothing; the widths of these fields are left free
here. SEED loads the generator, ACE1h in place of 0 (then ADJUSTED), and answers the value loaded (R173, R27). -/
def Obligations.IdentAndSeed : Prop :=
  (∀ (s : State) (options : Byte), s.cmp.engine = .idle →
    ∃ widths : List Nat, widths.length = 9
      ∧ (∀ x ∈ widths.zip [0x4856, 0x0316, 0x01, 32, 64, 16, 4096, 6, 4], x.2 < 256 ^ x.1)
      ∧ exec (.identRead [options]) s = .next { s with
          cmp := s.answered [options] 0x02 .done
            ((widths.zip [0x4856, 0x0316, 0x01, 32, 64, 16, 4096, 6, 4]).flatMap fun x => beBytes x.1 x.2) })
  ∧ ∀ (s : State) (seed loaded : BitVec 16), s.cmp.engine = .idle → loaded = (if seed = 0 then 0xACE1 else seed) →
    exec (.seed (beBytes 2 seed.toNat)) s = .next { s with
      cmp := s.answered (beBytes 2 seed.toNat) 0x04 (if seed = 0 then .adjusted else .done) (beBytes 2 loaded.toNat)
      su := { s.su with jitter := loaded } }

/-- CLASS-SET writes the class into each named entry of the class map, keeps the others, and answers DONE with the whole map; a class other than 0 or 1 is MALFORMED (R87). A set bit
of the map means URGENT, which is the model's reading (log 15). -/
def Obligations.ClassSetWritesTheNamedEntries : Prop :=
  ∀ (s : State) (kinds : FlagSet 64) (code : Byte), s.cmp.engine = .idle →
    let body := beBytes 8 kinds.toNat ++ [code]
    (1 < code.toNat → exec (.classSet body) s = .next { s with cmp := s.answered body 0x30 .malformed [] })
    ∧ (code.toNat ≤ 1 → ∃ map : FlagSet 64,
        (∀ k : Fin 64, map.mem k.val = if kinds.mem k.val then code == 1 else s.classMap.mem k.val)
        ∧ exec (.classSet body) s = .next { s with cmp := s.answered body 0x30 .done (beBytes 8 map.toNat), classMap := map })

/-- SYSTEM-SET: each setting present is brought into its range and written, M to at most F as F then stands, the others are kept; the response carries all fourteen, ADJUSTED when a
value was brought into range. Share mode or reserve present with a value above 1 makes the whole request MALFORMED. Nothing else changes (R21, R58, R74, R96, R103, R172).
That the numeric settings are read as unsigned is the model's (log 21). -/
def Obligations.SystemSetWritesTheSettings : Prop :=
  ∀ (s : State) (presence : BitVec 16) (trial : Byte) (tolerance : BitVec 32) (age : BitVec 16) (penalty : BitVec 32) (factor window fade marginal floor
    settle recovery : Byte) (margin : BitVec 32) (share reserve : Byte),
    s.cmp.engine = .idle → s.settings.InRange →
    let body := beBytes 2 presence.toNat ++ [trial] ++ beBytes 4 tolerance.toNat ++ beBytes 2 age.toNat ++ beBytes 4 penalty.toNat
      ++ [factor, window, fade, marginal, floor, settle, recovery] ++ beBytes 4 margin.toNat ++ [share, reserve]
    let old := s.settings
    let f := if presence.getLsbD 6 then max 1 fade.toNat else old.fadeThreshold
    let m := if presence.getLsbD 7 then marginal.toNat else old.marginalThreshold
    let new : Settings :=
      { trialCount := if presence.getLsbD 0 then max 1 (min trial.toNat 64) else old.trialCount
        trialTolerance := if presence.getLsbD 1 then min tolerance.toNat 5000000 else old.trialTolerance
        ageLimit := if presence.getLsbD 2 then max 10 (min age.toNat 4000) else old.ageLimit
        marginPenalty := if presence.getLsbD 3 then min penalty.toNat 1000000 else old.marginPenalty
        jitterFactor := if presence.getLsbD 4 then min factor.toNat 3 else old.jitterFactor
        windowLength := if presence.getLsbD 5 then max 1 window.toNat else old.windowLength
        fadeThreshold := f
        marginalThreshold := min (max 1 m) f
        gradeFloor := if presence.getLsbD 8 then min floor.toNat 7 else old.gradeFloor
        settleWindows := if presence.getLsbD 9 then max 1 settle.toNat else old.settleWindows
        recoveryWindows := if presence.getLsbD 10 then max 1 recovery.toNat else old.recoveryWindows
        switchMargin := if presence.getLsbD 11 then min margin.toNat 1000000 else old.switchMargin
        share := if presence.getLsbD 12 then (if share = 1 then .isolated else .shared) else old.share
        reserve := if presence.getLsbD 13 then reserve == 1 else old.reserve }
    ((presence.getLsbD 12 = true ∧ 1 < share.toNat) ∨ (presence.getLsbD 13 = true ∧ 1 < reserve.toNat) →
      exec (.systemSet body) s = .next { s with cmp := s.answered body 0x31 .malformed [] })
    ∧ ((presence.getLsbD 12 = true → share.toNat ≤ 1) → (presence.getLsbD 13 = true → reserve.toNat ≤ 1) →
        exec (.systemSet body) s = .next { s with
          cmp := s.answered body 0x31
            (if (presence.getLsbD 0 = true ∧ (trial.toNat < 1 ∨ 64 < trial.toNat))
                ∨ (presence.getLsbD 1 = true ∧ 5000000 < tolerance.toNat)
                ∨ (presence.getLsbD 2 = true ∧ (age.toNat < 10 ∨ 4000 < age.toNat))
                ∨ (presence.getLsbD 3 = true ∧ 1000000 < penalty.toNat)
                ∨ (presence.getLsbD 4 = true ∧ 3 < factor.toNat)
                ∨ (presence.getLsbD 5 = true ∧ window.toNat < 1)
                ∨ (presence.getLsbD 6 = true ∧ fade.toNat < 1)
                ∨ m < 1 ∨ f < m
                ∨ (presence.getLsbD 8 = true ∧ 7 < floor.toNat)
                ∨ (presence.getLsbD 9 = true ∧ settle.toNat < 1)
                ∨ (presence.getLsbD 10 = true ∧ recovery.toNat < 1)
                ∨ (presence.getLsbD 11 = true ∧ 1000000 < margin.toNat) then .adjusted else .done)
            ([byteOf new.trialCount] ++ beBytes 4 new.trialTolerance ++ beBytes 2 new.ageLimit ++ beBytes 4 new.marginPenalty
              ++ [byteOf new.jitterFactor, byteOf new.windowLength, byteOf new.fadeThreshold, byteOf new.marginalThreshold, byteOf new.gradeFloor,
                  byteOf new.settleWindows, byteOf new.recoveryWindows]
              ++ beBytes 4 new.switchMargin ++ [match new.share with | .shared => 0 | .isolated => 1, if new.reserve then 1 else 0])
          settings := new })

/-- LINE-SET writes each setting present and keeps the others; a change to STRICT sets the ratio counter to 0. When it turns transmit on, the due paths are then served and the line
reaches a frame boundary (the order of these two is the model's, log 13). A line above 5 or a value outside its coding is MALFORMED. Nothing else changes (R29, R104, R106, R112). -/
def Obligations.LineSetWritesTheSettings : Prop :=
  ∀ (s : State) (line presence tx rx ratio : Byte), s.cmp.engine = .idle →
    let body := [line, presence, tx, rx, ratio]
    (5 < line.toNat ∨ (presence.getLsbD 0 = true ∧ 1 < tx.toNat) ∨ (presence.getLsbD 1 = true ∧ 1 < rx.toNat)
        ∨ (presence.getLsbD 2 = true ∧ 3 < ratio.toNat) →
      exec (.lineSet body) s = .next { s with cmp := s.answered body 0x32 .malformed [] })
    ∧ ∀ l : Line, line = byteOf l.val → (presence.getLsbD 0 = true → tx.toNat ≤ 1) → (presence.getLsbD 1 = true → rx.toNat ≤ 1) →
      (presence.getLsbD 2 = true → ratio.toNat ≤ 3) →
      let old := s.lines.get l
      let new : LinePort := { old with
        txEnable := if presence.getLsbD 0 then tx == 1 else old.txEnable
        rxEnable := if presence.getLsbD 1 then rx == 1 else old.rxEnable
        ratio := if presence.getLsbD 2 then (if ratio = 0 then .strict else if ratio = 1 then .eight else if ratio = 2 then .four else .two) else old.ratio
        ratioCount := if presence.getLsbD 2 && ratio == 0 then 0 else old.ratioCount }
      let t : State := { s with cmp := s.answered body 0x32 .done [], lines := s.lines.set l new }
      exec (.lineSet body) s = .next (if old.txEnable = false ∧ new.txEnable = true then t.serve.boundary l else t)

/-! ### Time commands -/

/-- The reads that change nothing: TIME-READ (its time left rounded down to whole µs, log 19; its pending value absent as a single 0, log 15), PPS-READ, and NOTICE-READ (an EMPTY
latch as a single 0, log 15), whatever their option byte (R134, R140, R160). -/
def Obligations.ReadsThatChangeNothing : Prop :=
  ∀ (s : State) (options : Byte), s.cmp.engine = .idle →
    exec (.timeRead [options]) s = .next { s with
      cmp := s.answered [options] 0x40 .done
        (beBytes 8 s.tb.time.toNat ++ beBytes 4 s.tb.frac.toNat ++ beBytes 5 s.tb.step.toNat ++ beBytes 4 (BitVec.ofInt 32 s.tb.slew).toNat
          ++ (match s.tb.pendingSet with
              | none => [0]
              | some x => [1] ++ beBytes 8 x.value.toNat ++ beBytes 4 ((x.expiry - s.clock) / 400))) }
    ∧ exec (.ppsRead [options]) s = .next { s with
        cmp := s.answered [options] 0x45 .done (beBytes 8 s.tb.ppsStamp.toNat ++ [s.tb.ppsCount]) }
    ∧ exec (.noticeRead [options]) s = .next { s with
        cmp := s.answered [options] 0x53 .done
          ((match s.nu.latch with
            | none => [0]
            | some n => [1, byteOf n.feed.val] ++ beBytes 2 n.number.toNat ++ [slotByteOf n.old, slotByteOf n.new, n.reason.byte] ++ beBytes 8 n.time.toNat)
            ++ beBytes 8 s.nu.queued.toNat) }

/-- A state after a jump in TIME, before freed contexts are handed on: no context is occupied, the SOUNDs of those freed have left the control slots, and every echo entry is voided
(R142). -/
def afterJump (s : State) (tb : TimeBase) (nu : NoticeUnit) : State :=
  { s with
    tb := tb
    nu := nu
    su := { s.su with contexts := .replicate 16 none }
    lines := s.lines.map fun p => { p with
      sounds := p.sounds.filter fun e => (s.su.contexts.get e.context).isNone
      echoes := p.echoes.map fun e => { e with voided := true } } }

/-- TIME-SET NOW and TIME-STEP with no set pending: TIME is V with fraction 0, or TIME moves by the offset clamped and held at either end of its range; the slew ends without SLEW
DONE, contexts and echo entries are voided, TIME STEPPED is raised, and a pending set is dropped by NOW. The step answers the offset applied (R135, R138, R142). Freed contexts then go
to the waiting list (R28). That this comes after every other effect (log 26), and the slew tick count at 0 (log 22), are the model's. -/
def Obligations.JumpsMoveTime : Prop :=
  (∀ (s : State) (v : Stamp), s.cmp.engine = .idle →
    let body := [0] ++ beBytes 8 v.toNat
    exec (.timeSetNow body) s = .next
      (State.serve { afterJump s { s.tb with time := v, frac := 0, slew := 0, slewTicks := 0, pendingSet := none } { s.nu with flags := s.nu.flags.insert 11 } with
        cmp := s.answered body 0x41 .done [] }))
  ∧ ∀ (s : State) (offset : BitVec 32), s.cmp.engine = .idle → s.tb.pendingSet = none →
    let time : Int := max 0 (min (s.tb.time.toNat + max (-1000000000) (min offset.toInt 1000000000)) (2 ^ 64 - 1))
    let applied : Int := time - s.tb.time.toNat
    exec (.timeStep (beBytes 4 offset.toNat)) s = .next
      (State.serve
        { afterJump s { s.tb with time := BitVec.ofInt 64 time, slew := 0, slewTicks := 0 } { s.nu with flags := s.nu.flags.insert 11 } with
          cmp := s.answered (beBytes 4 offset.toNat) 0x42 (if applied = offset.toInt then .done else .adjusted) (beBytes 4 (BitVec.ofInt 32 applied).toNat) })

/-- The time commands that do not jump: TIME-SET AT PPS ends the slew and makes V pending for 2 s of core clock, in place of a value already pending; TIME-SLEW writes the clamped
offset as the remainder and sets the slew tick count to 0; TIME-RATE writes STEP brought into its range. TIME-STEP and TIME-SLEW are refused PENDING while a set is pending, and a
TIME-SET of another mode is MALFORMED (R132, R135, R136, R138, R139). -/
def Obligations.TimeCommandsWithoutAJump : Prop :=
  (∀ (s : State) (v : Stamp), s.cmp.engine = .idle →
    exec (.timeSetAtPps ([1] ++ beBytes 8 v.toNat)) s = .next { s with
      cmp := s.answered ([1] ++ beBytes 8 v.toNat) 0x41 .done []
      tb := { s.tb with slew := 0, slewTicks := 0, pendingSet := some ⟨v, s.clock + 800000000⟩ } })
  ∧ (∀ (s : State) (mode : Byte) (v : Stamp), s.cmp.engine = .idle → 1 < mode.toNat →
    exec (.timeSetNow ([mode] ++ beBytes 8 v.toNat)) s = .next { s with cmp := s.answered ([mode] ++ beBytes 8 v.toNat) 0x41 .malformed [] })
  ∧ (∀ (s : State) (offset : BitVec 32), s.cmp.engine = .idle →
    (s.tb.pendingSet = none →
      let kept : Int := max (-1000000) (min offset.toInt 1000000)
      exec (.timeSlew (beBytes 4 offset.toNat)) s = .next { s with
        cmp := s.answered (beBytes 4 offset.toNat) 0x43 (if kept = offset.toInt then .done else .adjusted) (beBytes 4 (BitVec.ofInt 32 kept).toNat)
        tb := { s.tb with slew := kept, slewTicks := 0 } })
    ∧ (s.tb.pendingSet ≠ none →
        exec (.timeSlew (beBytes 4 offset.toNat)) s = .next { s with cmp := s.answered (beBytes 4 offset.toNat) 0x43 .pending [] }
        ∧ exec (.timeStep (beBytes 4 offset.toNat)) s = .next { s with cmp := s.answered (beBytes 4 offset.toNat) 0x42 .pending [] }))
  ∧ ∀ (s : State) (rate : BitVec 40), s.cmp.engine = .idle →
    let kept : Nat := max 0x0266666666 (min rate.toNat 0x0299999999)
    exec (.timeRate (beBytes 5 rate.toNat)) s = .next { s with
      cmp := s.answered (beBytes 5 rate.toNat) 0x44 (if kept = rate.toNat then .done else .adjusted) (beBytes 5 kept)
      tb := { s.tb with step := BitVec.ofNat 40 kept } }

/-- One core tick adds STEP to TIME and its fraction as one number, TIME held at 2^64 - 1; the 1,000th tick of a slew adds or takes 1 ns more and moves the remainder one toward 0, and
the one that brings it to 0 raises SLEW DONE. Nothing counts in hardware reset and initialisation (R131, R136, R176). SLEW_CORRECTION is that 1,000th tick (log 8), and CORE_TICK n
is n ticks one after another (log 7): the model's readings of these two rows. -/
def Obligations.CoreTickAdvancesTime : Prop :=
  (∀ s : State, s.off = true → exec (.coreTick 1) s = .next s)
  ∧ (∀ s : State, s.off = false → s.tb.InRange →
    let turn : Int := if s.tb.slewTicks = 999 ∧ s.tb.slew ≠ 0 then s.tb.slew.sign else 0
    let sum : Nat := ((s.tb.time.toNat * 2 ^ 32 + s.tb.frac.toNat + s.tb.step.toNat : Nat) + turn * 2 ^ 32 : Int).toNat
    exec (.coreTick 1) s = .next { s with
      clock := s.clock + 1
      tb := { s.tb with
        time := BitVec.ofNat 64 (min (sum / 2 ^ 32) (2 ^ 64 - 1))
        frac := BitVec.ofNat 32 sum
        slew := s.tb.slew - turn
        slewTicks := if s.tb.slew = 0 ∨ s.tb.slewTicks = 999 then 0 else s.tb.slewTicks + 1 }
      nu := if s.tb.slew ≠ 0 ∧ s.tb.slew = turn then { s.nu with flags := s.nu.flags.insert 14 } else s.nu })
  ∧ (∀ s : State, s.tb.InRange → exec .slewCorrection s = if s.tb.slew ≠ 0 ∧ s.tb.slewTicks = 999 then exec (.coreTick 1) s else .next s)
  ∧ ∀ (s : State) (m n : Nat), s.tb.InRange →
    ∃ t u, exec (.coreTick m) s = .next t ∧ exec (.coreTick n) t = .next u ∧ exec (.coreTick (m + n)) s = .next u

/-- A rising edge on PPS_IN writes TIME into the PPS record, counts the edge from 255 to 0, and raises PPS; a pending TIME-SET is then applied with TIME SET DONE and a jump. A set
whose 2 s have passed is dropped with TIME SET EXPIRED, and nothing is voided (R139, R140, R141). Edges in hardware reset and initialisation are not taken (R143); an
expiry row without an expired set does nothing (log 5). That freed contexts are handed on after the edge's other effects is the model's (log 26). -/
def Obligations.PpsEdgeAndExpiry : Prop :=
  (∀ s : State, s.off = true → exec .ppsEdge s = .next s)
  ∧ (∀ s : State, s.off = false → s.tb.pendingSet = none →
    exec .ppsEdge s = .next { s with
      tb := { s.tb with ppsStamp := s.tb.time, ppsCount := s.tb.ppsCount + 1 }
      nu := { s.nu with flags := s.nu.flags.insert 15 } })
  ∧ (∀ (s : State) (x : PendingSet), s.off = false → s.tb.pendingSet = some x →
    exec .ppsEdge s = .next (State.serve (afterJump s
      { s.tb with time := x.value, frac := 0, pendingSet := none, ppsStamp := s.tb.time, ppsCount := s.tb.ppsCount + 1 }
      { s.nu with flags := (s.nu.flags.insert 15).insert 12 })))
  ∧ (∀ (s : State) (x : PendingSet), s.tb.pendingSet = some x → x.expiry ≤ s.clock →
    exec .timeSetExpiry s = .next { s with tb := { s.tb with pendingSet := none }, nu := { s.nu with flags := s.nu.flags.insert 13 } })
  ∧ ∀ s : State, (∀ x, s.tb.pendingSet = some x → s.clock < x.expiry) → exec .timeSetExpiry s = .next s

/-- TIME never decreases, except through a TIME-SET (given, or applied at an edge), a TIME-STEP with a negative offset, or hardware reset (R131). Codes 41h and 42h in an
UNKNOWN_COMMAND are these two commands as well (log 18). -/
def Obligations.TimeNeverDecreases : Prop :=
  ∀ (s t : State) (c : Instr), s.tb.InRange → exec c s = .next t →
    (∀ body, c ≠ .timeSetNow body ∧ c ≠ .timeSetAtPps body ∧ c ≠ .unknownCommand 0x41 body) →
    (c = .ppsEdge → s.tb.pendingSet = none) → (∀ level, c ≠ .hardwareReset level) →
    (∀ (body : List Byte) (offset : BitVec 32), c = .timeStep body ∨ c = .unknownCommand 0x42 body → body = beBytes 4 offset.toNat → 0 ≤ offset.toInt) →
    s.tb.time.toNat ≤ t.tb.time.toNat

/-! ### Events and route notices -/

/-- The member set of an event kind, at its width and in the order of the table in 10.1; none for the kinds without one. -/
def memberSetBytes (n : NoticeUnit) (kind : Nat) : List Byte :=
  match kind with
  | 0 => beBytes 4 (n.pathSets.get 0).toNat
  | 1 => beBytes 4 (n.pathSets.get 1).toNat
  | 2 => beBytes 4 (n.pathSets.get 2).toNat
  | 3 => beBytes 4 (n.pathSets.get 3).toNat
  | 4 => beBytes 4 (n.pathSets.get 4).toNat
  | 5 => beBytes 4 (n.pathSets.get 5).toNat
  | 6 => beBytes 1 (n.lineSets.get 0).toNat
  | 7 => beBytes 1 (n.lineSets.get 1).toNat
  | 8 => beBytes 1 (n.lineSets.get 2).toNat
  | 9 => beBytes 8 (n.feedSets.get 0).toNat
  | 10 => beBytes 8 (n.feedSets.get 1).toNat
  | _ => []

/-- EVENT-READ returns all 17 flags, the eleven member sets in the order of 10.1, and the mask, whatever its option byte, and changes nothing (R156). -/
def Obligations.EventReadReturnsAll : Prop :=
  ∀ (s : State) (options : Byte), s.cmp.engine = .idle →
    exec (.eventRead [options]) s = .next { s with
      cmp := s.answered [options] 0x50 .done
        (beBytes 3 s.nu.flags.toNat ++ memberSetBytes s.nu 0 ++ memberSetBytes s.nu 1 ++ memberSetBytes s.nu 2 ++ memberSetBytes s.nu 3
          ++ memberSetBytes s.nu 4 ++ memberSetBytes s.nu 5 ++ memberSetBytes s.nu 6 ++ memberSetBytes s.nu 7 ++ memberSetBytes s.nu 8
          ++ memberSetBytes s.nu 9 ++ memberSetBytes s.nu 10 ++ beBytes 3 s.nu.mask.toNat) }

/-- EVENT-CLEAR clears each named kind's flag and member set and answers them as they stood; kinds not named, the mask, the latch and the pending set stay, and a kind outside the 17
is MALFORMED (R157); the layout of the answer, a flag byte before each named kind's set in rising order of kind, is the model's (log 15). EVENT-MASK writes all 18 enables at once, leaving flags and latch; a bit above 17 is MALFORMED. INT_N is asserted exactly while an enabled kind has its flag set or
the route-notice enable is on with the latch FULL, and is released while RESET_N is low (R158). -/
def Obligations.EventClearAndMask : Prop :=
  (∀ (s : State) (kinds : BitVec 24), s.cmp.engine = .idle → 2 ^ 17 ≤ kinds.toNat →
    exec (.eventClear (beBytes 3 kinds.toNat)) s = .next { s with cmp := s.answered (beBytes 3 kinds.toNat) 0x51 .malformed [] })
  ∧ (∀ (s : State) (kinds : FlagSet 17), s.cmp.engine = .idle →
    ∃ n : NoticeUnit,
      exec (.eventClear (beBytes 3 kinds.toNat)) s = .next { s with
        cmp := s.answered (beBytes 3 kinds.toNat) 0x51 .done
          ((List.range 17).flatMap fun k => if kinds.mem k then (if s.nu.flags.mem k then 1 else 0) :: memberSetBytes s.nu k else [])
        nu := n }
      ∧ (∀ k : Fin 17, n.flags.mem k.val = (s.nu.flags.mem k.val && !kinds.mem k.val))
      ∧ (∀ k : Fin 6, n.pathSets.get k = if kinds.mem k.val then 0 else s.nu.pathSets.get k)
      ∧ (∀ k : Fin 3, n.lineSets.get k = if kinds.mem (k.val + 6) then 0 else s.nu.lineSets.get k)
      ∧ (∀ k : Fin 2, n.feedSets.get k = if kinds.mem (k.val + 9) then 0 else s.nu.feedSets.get k)
      ∧ n.mask = s.nu.mask ∧ n.latch = s.nu.latch ∧ n.queued = s.nu.queued)
  ∧ (∀ (s : State) (mask : FlagSet 18), s.cmp.engine = .idle →
    exec (.eventMask (beBytes 3 mask.toNat)) s = .next { s with
      cmp := s.answered (beBytes 3 mask.toNat) 0x52 .done []
      nu := { s.nu with mask := mask } })
  ∧ (∀ (s : State) (enables : BitVec 24), s.cmp.engine = .idle → 2 ^ 18 ≤ enables.toNat →
    exec (.eventMask (beBytes 3 enables.toNat)) s = .next { s with cmp := s.answered (beBytes 3 enables.toNat) 0x52 .malformed [] })
  ∧ ∀ s : State, s.intAsserted = true ↔
      s.cmp.engine ≠ .held
        ∧ ((∃ k : Fin 17, s.nu.mask.mem k.val = true ∧ s.nu.flags.mem k.val = true) ∨ (s.nu.mask.mem 17 = true ∧ s.nu.latch ≠ none))

/-- NOTICE-CLEAR: an EMPTY latch stays and nothing changes; a FULL one is emptied, and refilled from the lowest member of the pending set, which leaves the set, with old lead absent,
the feed's number and lead as they stand, reason DEFERRED and TIME. It answers the record removed and the latch after (R160); that each stands behind a state byte, and an absent one is a single 0 byte, is the model's
(log 15). NU takes a
notice by the latch: EMPTY, it is filled; the same feed and number, new lead, reason and time are replaced; the same feed under another number, it is overwritten; another feed, the feed
joins the pending set once (R159). -/
def Obligations.NoticesAreTakenAndCleared : Prop :=
  (∀ s : State, s.cmp.engine = .idle →
    let record (n : Notice) : List Byte :=
      [1, byteOf n.feed.val] ++ beBytes 2 n.number.toNat ++ [slotByteOf n.old, slotByteOf n.new, n.reason.byte] ++ beBytes 8 n.time.toNat
    (s.nu.latch = none → exec (.noticeClear []) s = .next { s with cmp := s.answered [] 0x54 .done [0, 0] })
    ∧ ∀ n : Notice, s.nu.latch = some n →
      ((∀ k : FeedSlot, s.nu.queued.mem k.val = false) →
        exec (.noticeClear []) s = .next { s with cmp := s.answered [] 0x54 .done (record n ++ [0]), nu := { s.nu with latch := none } })
      ∧ ∀ f : FeedSlot, s.nu.queued.mem f.val = true → (∀ k : FeedSlot, k < f → s.nu.queued.mem k.val = false) →
        let next : Notice := ⟨f, (s.feeds.get f).number, none, (s.feeds.get f).out.lead, .deferred, s.tb.time⟩
        ∃ left : FlagSet 64, (∀ k : FeedSlot, left.mem k.val = true ↔ s.nu.queued.mem k.val = true ∧ k ≠ f)
          ∧ exec (.noticeClear []) s = .next { s with
              cmp := s.answered [] 0x54 .done (record n ++ record next)
              nu := { s.nu with latch := some next, queued := left } })
  ∧ ∀ (n : NoticeUnit) (x : Notice),
    (n.latch = none → n.take x = { n with latch := some x })
    ∧ ∀ y : Notice, n.latch = some y →
      (y.feed = x.feed → y.number = x.number → n.take x = { n with latch := some { y with new := x.new, reason := x.reason, time := x.time } })
      ∧ (y.feed = x.feed → y.number ≠ x.number → n.take x = { n with latch := some x })
      ∧ (y.feed ≠ x.feed →
          n.take x = { n with queued := (n.take x).queued }
          ∧ ∀ k : FeedSlot, (n.take x).queued.mem k.val = true ↔ n.queued.mem k.val = true ∨ k = x.feed)

/-! ### Resets -/

/-- While RESET_N is low, and as it rises and initialisation begins, every unit holds its hardware-reset values and the engine shows RESETTING with an empty buffer; a transaction that
stands open is abandoned, whatever was sent of it (R163, R176). That units take these values at the fall already, that a rise without a fall changes nothing, and that pins and queue
stay, are the model's choices (log 17), and so are ABSENT and UNLOCKED before the pins are sampled (log 16). At the end of initialisation the engine is IDLE, the window timer starts,
presence and lock are sampled without an event, and a LOCKED fibre line is PRESENT at grade 7 (R76); outside initialisation the row does nothing (log 5). -/
def Obligations.HardwareResetAndInitialisation : Prop :=
  (∀ (s : State) (sent : List Byte), exec (.hardwareReset (.low sent)) s = .next { State.reset with
    cmp := ⟨.held, none, [], false⟩, presentPin := s.presentPin, lockPin := s.lockPin, pending := s.pending })
  ∧ (∀ s : State, s.cmp.engine = .held → exec (.hardwareReset .high) s = .next { State.reset with
    cmp := ⟨.initialising, none, [], false⟩, presentPin := s.presentPin, lockPin := s.lockPin, pending := s.pending })
  ∧ (∀ s : State, s.cmp.engine ≠ .held → exec (.hardwareReset .high) s = .next s)
  ∧ (∀ s : State, s.cmp.engine ≠ .initialising → exec .initialisationEnd s = .next s)
  ∧ ∀ s : State, s.cmp.engine = .initialising →
    ∃ t, exec .initialisationEnd s = .next t
      ∧ t = { s with cmp := { s.cmp with engine := .idle }, window := some ⟨0, s.settings.windowLength⟩, lines := t.lines }
      ∧ (∀ l : RadioLine, t.lines.get (radioLine l) = { s.lines.get (radioLine l) with presence := s.presentPin.mem l.val })
      ∧ ∀ l : FibreLine, t.lines.get (fibreLine l) = { s.lines.get (fibreLine l) with
          lock := s.lockPin.mem l.val, grade := if s.lockPin.mem l.val then 7 else 0 }

/-- A one-byte SOFT-RESET on an IDLE engine goes to RESETTING and walks every unit: measured paths keep identity and tuning with EMPTY estimate and CLEAR weather, the others are
vacant; contexts, queues, FIFOs, flags, latch and counters are emptied; settings, identities of feeds, next sequences, mask, id counter and generator are kept (R22, R42, R76, R97, R114,
R130, R162, R174). That the walk's effects come at its start, with next-due times kept until its end, is the model's (log 11), and so is that
the transmitters stop before the contexts are voided, by which a SOUND in transmission is cut off with the other frames (log 32). Any other length is MALFORMED without a walk (R175). -/
def Obligations.SoftResetWalksTheUnits : Prop :=
  (∀ (s : State) (b : Byte) (rest : List Byte), s.cmp.engine = .idle →
    exec (.softReset (b :: rest)) s = .next { s with cmp := s.answered (b :: rest) 0x03 .malformed [] })
  ∧ ∀ s : State, s.cmp.engine = .idle →
    ∃ t, exec (.softReset []) s = .next t
      ∧ t = { s with
          cmp := ⟨.walking, none, [s.statusByte], false⟩
          paths := t.paths
          su := { s.su with contexts := .replicate 16 none, due := 0, waiting := 0 }
          lines := t.lines
          freeCells := 4096
          feeds := t.feeds
          scanCursor := 0
          ports := .replicate 4 ⟨[], ⟨0, 0, 0, 0, 0, 0⟩⟩
          nu := ⟨0, .replicate 6 0, .replicate 3 0, .replicate 2 0, s.nu.mask, none, 0⟩
          window := none }
      ∧ (∀ i : PathSlot,
          let p := s.paths.get i
          t.paths.get i =
            if p.life = .trial ∨ p.life = .inService ∨ p.life = .held then
              { life := p.life, line := p.line, tag := p.tag, tuning := p.tuning, est := .empty, e := 0, j := 0, age := 0, outlierRun := .none
                goodCount := 0, trialFailed := false, weather := ⟨.clear, 0, 0, 0, 0, (s.lines.get p.line).grade, 0⟩
                queued := 0, wins := 0, counters := ⟨0, 0, 0, 0, 0, 0, 0⟩ }
            else
              { life := .vacant, line := 0, tag := 0, tuning := ⟨0, 0, 3, 50000, 20, 0⟩, est := .empty, e := 0, j := 0, age := 0, outlierRun := .none
                goodCount := 0, trialFailed := false, weather := ⟨.clear, 0, 0, 0, 0, 0, 0⟩
                queued := 0, wins := 0, counters := ⟨0, 0, 0, 0, 0, 0, 0⟩ })
      ∧ (∀ l : Line, t.lines.get l = { s.lines.get l with
          timer := none, ratioCount := 0, urgent := [], normal := [], tx := none, echoes := [], sounds := []
          counters := ⟨0, 0, 0, 0, 0, 0, 0, 0, 0, 0, 0, 0, 0, 0, 0⟩ })
      ∧ ∀ k : FeedSlot, t.feeds.get k =
          if (s.feeds.get k).opened then
            { s.feeds.get k with
              out := { (s.feeds.get k).out with lead := none, rateCount := 0, counters := ⟨0, 0, 0, 0, 0, 0, 0⟩ }
              inb := { (s.feeds.get k).inb with window := ⟨false, 0, 0, 0⟩, counters := ⟨0, 0, 0, 0, 0, 0, 0⟩ } }
          else s.feeds.get k

/-- The end of the walk: the engine is IDLE with the response of SOFT-RESET waiting and SOFT RESET DONE raised, every measured path falls due, status timers of lines with carrier are
armed for 5 ms and the others idle, and the window timer restarts. Where no pin change was held, the only further effect is the issue of due soundings. A held presence change raises
MODEM CHANGE, a lock gained raises LINE UP with the line PRESENT at grade 7, and a modem removed or a lock lost on a line with carrier raises LINE DOWN with the carrier-loss cascade: the
line LOST, flushed and counted, no context on it, its measured paths FADED (R42, R62, R63, R66, R67, R76, R174). The order of these effects within the step is the model's (log 12), and
outside the walk the row does nothing (log 5). -/
def Obligations.EndOfWalkWakesTheUnits : Prop :=
  (∀ s : State, s.cmp.engine ≠ .walking → exec .endOfWalk s = .next s)
  ∧ ∀ s : State, s.cmp.engine = .walking →
    ∃ t, exec .endOfWalk s = .next t
      ∧ t.cmp = { s.cmp with engine := .idle, buffer := some ⟨0x03, .done, []⟩ }
      ∧ t.nu.flags.mem 16 = true
      ∧ t.window = some ⟨0, s.settings.windowLength⟩
      ∧ (∀ l : RadioLine, (t.lines.get (radioLine l)).presence = s.presentPin.mem l.val
          ∧ (t.lines.get (radioLine l)).timer = (if (t.lines.get (radioLine l)).grade ≠ 0 then some (s.clock + 2000000) else none)
          ∧ ((s.lines.get (radioLine l)).presence ≠ s.presentPin.mem l.val →
              t.nu.flags.mem 8 = true ∧ (t.nu.lineSets.get 2).mem l.val = true ∧ ((t.lines.get (radioLine l)).grade = 0 ∨ s.presentPin.mem l.val = true)))
      ∧ (∀ l : FibreLine, (t.lines.get (fibreLine l)).lock = s.lockPin.mem l.val ∧ (t.lines.get (fibreLine l)).timer = none
          ∧ ((s.lines.get (fibreLine l)).lock ≠ s.lockPin.mem l.val → (t.lines.get (fibreLine l)).grade = if s.lockPin.mem l.val then 7 else 0)
          ∧ ((s.lines.get (fibreLine l)).lock = false → s.lockPin.mem l.val = true → (s.lines.get (fibreLine l)).grade = 0 →
              t.nu.flags.mem 7 = true ∧ (t.nu.lineSets.get 1).mem (fibreLine l).val = true))
      ∧ (∀ l : Line, (s.lines.get l).grade ≠ 0 →
          (∃ r : RadioLine, l = radioLine r ∧ (s.lines.get l).presence = true ∧ s.presentPin.mem r.val = false)
            ∨ (∃ f : FibreLine, l = fibreLine f ∧ (s.lines.get l).lock = true ∧ s.lockPin.mem f.val = false) →
          t.nu.flags.mem 6 = true ∧ (t.nu.lineSets.get 0).mem l.val = true
          ∧ (t.lines.get l).grade = 0 ∧ (t.lines.get l).urgent = [] ∧ (t.lines.get l).normal = [] ∧ (t.lines.get l).tx = none
          ∧ (t.lines.get l).echoes = [] ∧ (t.lines.get l).sounds = []
          ∧ (t.lines.get l).counters.carrierLosses = bump (s.lines.get l).counters.carrierLosses
          ∧ (∀ (c : ContextId) (x : Context), t.su.contexts.get c = some x → x.line ≠ l)
          ∧ ∀ i : PathSlot, (s.paths.get i).measured = true → (s.paths.get i).line = l →
              (t.paths.get i).weather.state = .faded ∧ (t.paths.get i).est ≠ .valid
              ∧ ((s.paths.get i).weather.state ≠ .faded → t.nu.flags.mem 2 = true ∧ (t.nu.pathSets.get 2).mem i.val = true))
      ∧ ((∀ l : RadioLine, (s.lines.get (radioLine l)).presence = s.presentPin.mem l.val) →
          (∀ l : FibreLine, (s.lines.get (fibreLine l)).lock = s.lockPin.mem l.val) →
          ∃ u : SoundingUnit,
            u = { s.su with nextDue := u.nextDue, due := u.due }
            ∧ (∀ i : PathSlot, u.nextDue.get i = (if (s.paths.get i).measured then some (s.clock / 400) else s.su.nextDue.get i)
                ∧ u.due.mem i.val = (s.paths.get i).measured)
            ∧ let v := State.serve { s with cmp := t.cmp, su := u, nu := { s.nu with flags := s.nu.flags.insert 16 } }
              t = { v with lines := t.lines, window := t.window }
              ∧ ∀ l : Line, t.lines.get l = { v.lines.get l with timer := (t.lines.get l).timer })

/-- While the engine is RESETTING, and while RESET_N is low, nothing that arrives reaches a unit: line and local frames are discarded uncounted at their last byte, no sounding falls due
or is lost, a pin change only moves the pin, and a line reaches no frame boundary (R148, R152, R174, R175, R176). That this holds in the whole of hardware reset, and that the rows change
nothing there, is the model's (log 17). -/
def Obligations.NothingArrivesWhileResetting : Prop :=
  ∀ s : State, s.cmp.engine = .walking ∨ s.cmp.engine = .initialising ∨ s.cmp.engine = .held →
    (∀ (l : Line) (bytes : List Byte),
      exec (.feedFrame l .lastByte bytes) s = .next (quietLine s l) ∧ exec (.soundFrame l .lastByte bytes) s = .next (quietLine s l)
        ∧ exec (.echoFrame l .lastByte bytes) s = .next (quietLine s l) ∧ exec (.modemStatusFrame l .lastByte bytes) s = .next (quietLine s l)
        ∧ exec (.badKindFrame l .lastByte bytes) s = .next (quietLine s l))
    ∧ (∀ (p : Port) (bytes : List Byte), exec (.localFrame p .lastByte bytes) s = .next (quietPort s p))
    ∧ (∀ i : PathSlot, exec (.soundingDue i) s = .next s) ∧ (∀ c : ContextId, exec (.soundingLost c) s = .next s)
    ∧ (∀ l : RadioLine, exec (.presentNActive l) s = .next { s with presentPin := s.presentPin.insert l.val }
        ∧ exec (.presentNInactive l) s = .next { s with presentPin := s.presentPin.erase l.val })
    ∧ (∀ l : FibreLine, exec (.lockGained l) s = .next { s with lockPin := s.lockPin.insert l.val }
        ∧ exec (.lockLost l) s = .next { s with lockPin := s.lockPin.erase l.val })
    ∧ ∀ l : Line, s.boundary l = s

/-! ### Ticks, windows and carrier -/

/-- A ms tick: the rate count of every OPEN OUTBOUND feed is 0, the window timer counts on, and each VALID estimate ages by 1 and goes STALE with PATH STALE when its age then exceeds
the age limit; ageing alone is suspended while RESETTING (R19, R85, R175). The tick comes when the core clock has reached it, and not in hardware reset (log 6). -/
def Obligations.MsTickAgesAndClears : Prop :=
  (∀ s : State, s.cmp.engine = .initialising ∨ s.cmp.engine = .held ∨ s.clock < s.nextMs → exec .msTick s = .next s)
  ∧ ∀ s : State, s.cmp.engine ≠ .initialising → s.cmp.engine ≠ .held → s.nextMs ≤ s.clock →
    ∃ t, exec .msTick s = .next t
      ∧ t = { s with nextMs := s.nextMs + 400000, feeds := t.feeds, paths := t.paths, window := t.window, nu := t.nu }
      ∧ (∀ k : FeedSlot, t.feeds.get k =
          if (s.feeds.get k).opened = true ∧ (s.feeds.get k).direction = .outbound then
            { s.feeds.get k with out := { (s.feeds.get k).out with rateCount := 0 } }
          else s.feeds.get k)
      ∧ t.window = s.window.map (fun w => { w with elapsed := w.elapsed + 1 })
      ∧ (s.cmp.engine = .walking → t.paths = s.paths ∧ t.nu = s.nu)
      ∧ (s.cmp.engine ≠ .walking →
          let aged (i : PathSlot) : Nat := min ((s.paths.get i).age.toNat + 1) 65535
          (∀ i : PathSlot, t.paths.get i =
            if (s.paths.get i).est = .valid then
              { s.paths.get i with
                age := BitVec.ofNat 16 (aged i)
                est := if s.settings.ageLimit < aged i then .stale else .valid }
            else s.paths.get i)
          ∧ t.nu = { s.nu with flags := t.nu.flags, pathSets := t.nu.pathSets }
          ∧ (∀ (k : Fin 6) (i : PathSlot), (t.nu.pathSets.get k).mem i.val = true ↔
              (s.nu.pathSets.get k).mem i.val = true ∨ (k = 4 ∧ (s.paths.get i).est = .valid ∧ s.settings.ageLimit < aged i))
          ∧ ∀ f : Fin 17, t.nu.flags.mem f.val = true ↔
              s.nu.flags.mem f.val = true ∨ (f = 4 ∧ ∃ i : PathSlot, (s.paths.get i).est = .valid ∧ s.settings.ageLimit < aged i))

/-- A fade-window close, once the window has lasted its length: each TRIAL, IN SERVICE or HELD path's window is classified by the first condition of BAD, POOR and CLEAN that holds,
else QUIET; its weather and run count move by the table of R72 with PATH FADED at each entry to FADED and PATH CLEARED at each entry to CLEAR; its counts are 0 and its minimum grade its
line's grade; the next window begins at the length in force (R70, R71, R72). A close before its time does nothing (log 5), and one that comes late starts the
next window at 0 (log 29). -/
def Obligations.WindowCloseMovesWeather : Prop :=
  (∀ s : State, (∀ w, s.window = some w → w.elapsed < w.length) → exec .windowClose s = .next s)
  ∧ ∀ (s : State) (w : WindowTimer), s.window = some w → w.length ≤ w.elapsed →
    ∃ t, exec .windowClose s = .next t
      ∧ t = { s with paths := t.paths, window := some ⟨0, s.settings.windowLength⟩, nu := t.nu }
      ∧ (let bad (i : PathSlot) : Bool :=
          let p := s.paths.get i
          s.settings.fadeThreshold ≤ p.weather.erroredFrames.toNat ∨ 2 ≤ p.weather.lostSoundings.toNat
            ∨ (p.line.val < 4 ∧ p.weather.minGrade.val ≤ s.settings.gradeFloor)
        let poor (i : PathSlot) : Bool :=
          let p := s.paths.get i
          s.settings.marginalThreshold ≤ p.weather.erroredFrames.toNat ∨ p.weather.lostSoundings.toNat = 1
        let clean (i : PathSlot) : Bool :=
          let p := s.paths.get i
          p.weather.erroredFrames.toNat = 0 ∧ p.weather.lostSoundings.toNat = 0 ∧ 1 ≤ p.weather.goodFrames.toNat + p.weather.goodResults.toNat
        let more (i : PathSlot) : Nat := min ((s.paths.get i).weather.run.toNat + 1) 255
        let run (i : PathSlot) : Nat := (s.paths.get i).weather.run.toNat
        let moved (i : PathSlot) : Weather × Nat :=
          match (s.paths.get i).weather.state with
          | .clear => if bad i then (.faded, 0) else if poor i then (.marginal, 0) else (.clear, run i)
          | .marginal =>
            if bad i then (.faded, 0)
            else if poor i then (.marginal, 0)
            else if clean i then (if s.settings.settleWindows ≤ more i then (.clear, 0) else (.marginal, more i))
            else (.marginal, run i)
          | .faded => if bad i || poor i then (.faded, run i) else if clean i then (.mending, 1) else (.faded, run i)
          | .mending =>
            if bad i || poor i then (.faded, 0)
            else if clean i then (if s.settings.recoveryWindows ≤ more i then (.clear, 0) else (.mending, more i))
            else (.mending, run i)
        let entered (i : PathSlot) (x : Weather) : Prop :=
          (s.paths.get i).measured = true ∧ (s.paths.get i).weather.state ≠ x ∧ (moved i).1 = x
        (∀ i : PathSlot, t.paths.get i =
          if (s.paths.get i).measured then
            { s.paths.get i with
              weather := ⟨(moved i).1, 0, 0, 0, 0, (s.lines.get (s.paths.get i).line).grade, BitVec.ofNat 8 (moved i).2⟩ }
          else s.paths.get i)
        ∧ t.nu = { s.nu with flags := t.nu.flags, pathSets := t.nu.pathSets }
        ∧ (∀ (k : Fin 6) (i : PathSlot), (t.nu.pathSets.get k).mem i.val = true ↔
            (s.nu.pathSets.get k).mem i.val = true ∨ (k = 2 ∧ entered i .faded) ∨ (k = 3 ∧ entered i .clear))
        ∧ ∀ f : Fin 17, t.nu.flags.mem f.val = true ↔
            s.nu.flags.mem f.val = true ∨ (f = 2 ∧ ∃ i, entered i .faded) ∨ (f = 3 ∧ ∃ i, entered i .clear))

/-- What a carrier loss on line `l` makes of `s`, before freed contexts are handed on (R66, R110): the line LOST with its queues, transmitter, control slot and echo slot empty and its
counters raised; its cells back in the pool; its measured paths FADED, its VALID estimates STALE, its contexts freed; each path's count lowered by its frames, and WITHDRAWING paths left
with none vacant; LINE DOWN, PATH FADED, PATH STALE and PATH WITHDRAWN raised for exactly those; nothing else changed. -/
def LosesCarrier (s u : State) (l : Line) : Prop :=
  let gone (i : PathSlot) : Nat := ((s.lines.get l).frames.filter fun f => f.copy.tag = (s.paths.get i).tag).length
  let onLine (i : PathSlot) : Prop := (s.paths.get i).life ≠ .vacant ∧ (s.paths.get i).line = l
  let drained (i : PathSlot) : Prop := onLine i ∧ (s.paths.get i).life = .withdrawing ∧ (s.paths.get i).queued ≤ gone i
  u = { s with paths := u.paths, su := { s.su with contexts := u.su.contexts }, lines := u.lines, freeCells := u.freeCells, nu := u.nu }
  ∧ u.freeCells = s.freeCells + ((s.lines.get l).frames.map (·.cells)).sum
  ∧ u.lines.get l = { s.lines.get l with
      grade := 0, urgent := [], normal := [], tx := none, echoes := [], sounds := [], ratioCount := 0
      counters := { (s.lines.get l).counters with
        carrierLosses := bump (s.lines.get l).counters.carrierLosses
        flushed := satAdd (s.lines.get l).counters.flushed (s.lines.get l).frames.length } }
  ∧ (∀ m : Line, m ≠ l → u.lines.get m = { s.lines.get m with
      sounds := (s.lines.get m).sounds.filter fun e => (s.su.contexts.get e.context).all fun x => x.line ≠ l })
  ∧ (∀ (c : ContextId) (x : Context), u.su.contexts.get c = some x ↔ s.su.contexts.get c = some x ∧ x.line ≠ l)
  ∧ (∀ i : PathSlot,
      (¬ onLine i → u.paths.get i = s.paths.get i)
      ∧ (drained i → u.paths.get i = .vacant)
      ∧ (onLine i → ¬ drained i → u.paths.get i =
          let p := s.paths.get i
          { p with
            est := if p.est = .valid then .stale else p.est
            weather := if p.measured then { p.weather with state := .faded, run := 0, minGrade := 0 } else p.weather
            queued := p.queued - gone i }))
  ∧ u.nu = { s.nu with flags := u.nu.flags, pathSets := u.nu.pathSets, lineSets := u.nu.lineSets }
  ∧ (∀ (k : Fin 3) (m : Line), (u.nu.lineSets.get k).mem m.val = true ↔ (s.nu.lineSets.get k).mem m.val = true ∨ (k = 0 ∧ m = l))
  ∧ (let fades (i : PathSlot) : Prop := (s.paths.get i).measured = true ∧ (s.paths.get i).line = l ∧ (s.paths.get i).weather.state ≠ .faded
    let stales (i : PathSlot) : Prop := onLine i ∧ (s.paths.get i).est = .valid
    (∀ (k : Fin 6) (i : PathSlot), (u.nu.pathSets.get k).mem i.val = true ↔
        (s.nu.pathSets.get k).mem i.val = true ∨ (k = 2 ∧ fades i) ∨ (k = 4 ∧ stales i) ∨ (k = 5 ∧ drained i))
    ∧ ∀ f : Fin 17, u.nu.flags.mem f.val = true ↔
        s.nu.flags.mem f.val = true ∨ f = 6 ∨ (f = 2 ∧ ∃ i, fades i) ∨ (f = 4 ∧ ∃ i, stales i) ∨ (f = 5 ∧ ∃ i, drained i))

/-- The carrier-loss cascade follows each of its causes on a line with carrier: a status timer's expiry (which counts STATUS TIMEOUTS), a modem removal (which raises MODEM CHANGE and
idles the timer), a loss of lock, and a status report of no carrier or grade 0 (which arms the timer for 5 ms). Then the freed contexts are handed on (R59 to R63, R66, R110). That this
comes when every unit has acted is the model's (log 26). -/
def Obligations.CarrierLossCascade : Prop :=
  (∀ (s : State) (l : RadioLine) (at_ : Nat), (s.lines.get (radioLine l)).timer = some at_ → at_ ≤ s.clock → (s.lines.get (radioLine l)).grade ≠ 0 →
    ∃ u, LosesCarrier
        { s with lines := s.lines.set (radioLine l) { s.lines.get (radioLine l) with
          timer := none
          counters := { (s.lines.get (radioLine l)).counters with statusTimeouts := bump (s.lines.get (radioLine l)).counters.statusTimeouts } } }
        u (radioLine l)
      ∧ exec (.statusTimerExpiry l) s = .next u.serve)
  ∧ (∀ (s : State) (l : RadioLine), s.resetting = false → s.presentPin.mem l.val = true → (s.lines.get (radioLine l)).grade ≠ 0 →
    ∃ u, LosesCarrier
        { s with
          presentPin := s.presentPin.erase l.val
          lines := s.lines.set (radioLine l) { s.lines.get (radioLine l) with presence := false, timer := none }
          nu := s.nu.raiseLine .modemChange (radioLine l) }
        u (radioLine l)
      ∧ exec (.presentNInactive l) s = .next u.serve)
  ∧ (∀ (s : State) (l : FibreLine), s.resetting = false → s.lockPin.mem l.val = true → (s.lines.get (fibreLine l)).grade ≠ 0 →
    ∃ u, LosesCarrier
        { s with
          lockPin := s.lockPin.erase l.val
          lines := s.lines.set (fibreLine l) { s.lines.get (fibreLine l) with lock := false } }
        u (fibreLine l)
      ∧ exec (.lockLost l) s = .next u.serve)
  ∧ ∀ (r : State) (l : RadioLine) (carrier : Bool) (grade : Fin 8),
    let s := quietLine r (radioLine l)
    s.resetting = false → (s.lines.get (radioLine l)).rxEnable = true → (s.lines.get (radioLine l)).presence = true → (s.lines.get (radioLine l)).grade ≠ 0 →
    carrier = false ∨ grade = 0 →
    ∃ u, LosesCarrier
        { s with lines := s.lines.set (radioLine l) { s.lines.get (radioLine l) with timer := some (s.clock + 2000000) } }
        u (radioLine l)
      ∧ exec (.modemStatusFrame (radioLine l) .lastByte
          (withHeaderCheck ([0x04, byteOf ((if carrier then 128 else 0) + grade.val)] ++ List.replicate 4 0))) r = .next u.serve

/-- A path of line `l` after a grade is recorded into its minimum grade, if WM cares for it (R69). -/
def graded (l : Line) (grade : Fin 8) (p : Path) : Path :=
  if p.measured ∧ p.line = l then { p with weather := { p.weather with minGrade := min p.weather.minGrade grade } } else p

/-- What a carrier return on line `l` makes of `s`, before due soundings are issued: PRESENT at the grade, LINE UP, the grade recorded, and nothing else (R67). -/
def carrierBack (s : State) (l : Line) (grade : Fin 8) : State :=
  { s with
    lines := s.lines.set l { s.lines.get l with grade := grade }
    paths := s.paths.map (graded l grade)
    nu := s.nu.raiseLine .up l }

/-- The remaining cases of R60: a MODEM STATUS frame on a radio line with its modem PRESENT arms the status timer for 5 ms, records the grade, and makes a LOST line PRESENT (with the
due soundings and a frame boundary following, in the order of log 13), a PRESENT one of another grade, or leaves it LOST. Without a modem, or on a fibre line, STATUS DISCARDED is counted
and nothing else changes (R60, R61, R63, R64, R67, R150). -/
def Obligations.ModemStatusIsTaken : Prop :=
  ∀ (r : State) (carrier : Bool) (grade : Fin 8), r.resetting = false →
    let frame := withHeaderCheck ([0x04, byteOf ((if carrier then 128 else 0) + grade.val)] ++ List.replicate 4 0)
    (∀ l : RadioLine,
      let s := quietLine r (radioLine l)
      (s.lines.get (radioLine l)).rxEnable = true → (s.lines.get (radioLine l)).presence = true →
      let u : State := { s with lines := s.lines.set (radioLine l) { s.lines.get (radioLine l) with timer := some (s.clock + 2000000) } }
      (carrier = true → grade ≠ 0 → (s.lines.get (radioLine l)).grade = 0 →
        exec (.modemStatusFrame (radioLine l) .lastByte frame) r = .next ((carrierBack u (radioLine l) grade).serve.boundary (radioLine l)))
      ∧ (carrier = true → grade ≠ 0 → (s.lines.get (radioLine l)).grade ≠ 0 →
        exec (.modemStatusFrame (radioLine l) .lastByte frame) r = .next { u with
          lines := u.lines.set (radioLine l) { u.lines.get (radioLine l) with grade := grade }
          paths := s.paths.map (graded (radioLine l) grade) })
      ∧ (carrier = false ∨ grade = 0 → (s.lines.get (radioLine l)).grade = 0 →
        exec (.modemStatusFrame (radioLine l) .lastByte frame) r = .next { u with paths := s.paths.map (graded (radioLine l) 0) }))
    ∧ ∀ l : Line,
        let s := quietLine r l
        (s.lines.get l).rxEnable = true → 4 ≤ l.val ∨ (s.lines.get l).presence = false →
        exec (.modemStatusFrame l .lastByte frame) r = .next { s with
          lines := s.lines.set l { s.lines.get l with
            counters := { (s.lines.get l).counters with statusDiscarded := bump (s.lines.get l).counters.statusDiscarded } } }

/-- Pins and timers without a carrier loss: a modem removed from a LOST line raises MODEM CHANGE and idles the timer; a modem fitted raises MODEM CHANGE alone; lock gained on a LOST
fibre line is a carrier return at grade 7; lock lost on a LOST line and a timer that expires on one change nothing else; an expiry not yet reached, or of an idle timer, does nothing (R61,
R62, R63). A pin already at its level, and an expiry row before its time, change nothing (log 5). That the due soundings are served before the frame boundary at a lock gained is the
model's (log 13). -/
def Obligations.PinsAndTimersWithoutALoss : Prop :=
  (∀ (s : State) (l : RadioLine), s.resetting = false →
    (s.presentPin.mem l.val = true → (s.lines.get (radioLine l)).grade = 0 →
      exec (.presentNInactive l) s = .next { s with
        presentPin := s.presentPin.erase l.val
        lines := s.lines.set (radioLine l) { s.lines.get (radioLine l) with presence := false, timer := none }
        nu := s.nu.raiseLine .modemChange (radioLine l) })
    ∧ (s.presentPin.mem l.val = false →
        exec (.presentNActive l) s = .next { s with
          presentPin := s.presentPin.insert l.val
          lines := s.lines.set (radioLine l) { s.lines.get (radioLine l) with presence := true }
          nu := s.nu.raiseLine .modemChange (radioLine l) }
        ∧ exec (.presentNInactive l) s = .next s)
    ∧ (s.presentPin.mem l.val = true → exec (.presentNActive l) s = .next s))
  ∧ (∀ (s : State) (l : FibreLine), s.resetting = false →
    (s.lockPin.mem l.val = false →
      ((s.lines.get (fibreLine l)).grade = 0 →
        exec (.lockGained l) s = .next
          ((carrierBack
            { s with lockPin := s.lockPin.insert l.val, lines := s.lines.set (fibreLine l) { s.lines.get (fibreLine l) with lock := true } }
            (fibreLine l) 7).serve.boundary (fibreLine l)))
      ∧ exec (.lockLost l) s = .next s)
    ∧ (s.lockPin.mem l.val = true →
        ((s.lines.get (fibreLine l)).grade = 0 →
          exec (.lockLost l) s = .next { s with
            lockPin := s.lockPin.erase l.val
            lines := s.lines.set (fibreLine l) { s.lines.get (fibreLine l) with lock := false } })
        ∧ exec (.lockGained l) s = .next s))
  ∧ ∀ (s : State) (l : RadioLine),
    (∀ at_, (s.lines.get (radioLine l)).timer = some at_ → at_ ≤ s.clock → (s.lines.get (radioLine l)).grade = 0 →
      exec (.statusTimerExpiry l) s = .next { s with lines := s.lines.set (radioLine l) { s.lines.get (radioLine l) with timer := none } })
    ∧ ((∀ at_, (s.lines.get (radioLine l)).timer = some at_ → s.clock < at_) → exec (.statusTimerExpiry l) s = .next s)

/-! ### Frame boundaries and completions -/

/-- A frame boundary of an IDLE line outside RESETTING (R30, R38, R104, R105, R106, R107): the ratio counter is 0 first when NORMAL has no waiting frame; on a line with carrier and
transmit the oldest echo entry starts with its residence, else the oldest SOUND with T1, deadline and SOUNDINGS SENT, else the head of the queue the ratio picks; each at the line's cell
time. A SENDING line reaches no boundary, and a line that cannot send starts nothing. The bytes of each frame are those of 9.1. That the ratio counter is set to 0 on a line that cannot
send too (log 23), that the deadline is a sum without a width (log 28), and that R is a free value where a T2 above T3 is not voided (log 31), are the model's. -/
def Obligations.FrameBoundaryChoosesTheFrame : Prop :=
  (∀ (s : State) (l : Line), (s.lines.get l).tx ≠ none → s.boundary l = s)
  ∧ ∀ (s : State) (l : Line), s.resetting = false → (s.lines.get l).tx = none →
    let p : LinePort := { s.lines.get l with ratioCount := if (s.lines.get l).normal = [] then 0 else (s.lines.get l).ratioCount }
    let time : Nat := [0, 2560, 1707, 1280, 1024, 853, 640, 512][p.grade.val]!
    let ready : Prop := p.grade ≠ 0 ∧ p.txEnable = true
    let feed (f : QueuedFrame) : List Byte :=
      withHeaderCheck ([0x01] ++ beBytes 2 (f.copy.tag.toNat * 16 + (if f.copy.second then 8 else 0) + (match f.copy.urgency with | .normal => 0 | .urgent => 4))
        ++ [byteOf f.copy.kind.val] ++ beBytes 2 f.copy.number.toNat ++ beBytes 4 f.copy.sequence.toNat ++ beBytes 8 f.copy.origin.toNat
        ++ beBytes 2 f.copy.payload.length ++ beBytes 4 f.check.toNat ++ [0, 0, 0, 0, 0, 0]) ++ f.copy.payload
    (¬ ready → s.boundary l = { s with lines := s.lines.set l p })
    ∧ (ready → ∀ (e : EchoEntry) (rest : List EchoEntry), p.echoes = e :: rest →
        let r : BitVec 32 := if e.voided then 0 else if s.tb.time.toNat < e.t2.toNat then Config.residenceOf e.t2 s.tb.time
          else BitVec.ofNat 32 (min (s.tb.time.toNat - e.t2.toNat) (2 ^ 32 - 1))
        s.boundary l = { s with lines := s.lines.set l { p with
          echoes := rest
          tx := some ⟨.echo e.tag e.id e.voided r, 1, time, s.clock,
            withHeaderCheck ([0x03] ++ beBytes 2 (e.tag.toNat * 16 + (if e.voided then 8 else 0)) ++ beBytes 2 e.id.toNat ++ beBytes 4 r.toNat ++ [0, 0, 0, 0, 0])⟩
          counters := { p.counters with echoesSent := bump p.counters.echoesSent } } })
    ∧ (ready → p.echoes = [] → ∀ (e : SoundEntry) (rest : List SoundEntry) (x : Context), p.sounds = e :: rest → s.su.contexts.get e.context = some x →
        s.boundary l = { s with
          lines := s.lines.set l { p with
            sounds := rest
            tx := some ⟨.sound e.tag e.id, 1, time, s.clock,
              withHeaderCheck ([0x02] ++ beBytes 2 (e.tag.toNat * 16) ++ beBytes 2 e.id.toNat ++ [0, 0, 0, 0, 0, 0, 0, 0, 0])⟩ }
          su := { s.su with
            contexts := s.su.contexts.set e.context (some { x with t1 := some s.tb.time, deadline := x.timeout.map fun d => s.tb.time.toNat + d }) }
          paths := s.paths.set x.path { s.paths.get x.path with
            counters := { (s.paths.get x.path).counters with soundingsSent := bump (s.paths.get x.path).counters.soundingsSent } } })
    ∧ (ready → p.echoes = [] → p.sounds = [] →
        (p.urgent = [] → p.normal = [] → s.boundary l = { s with lines := s.lines.set l p })
        ∧ (∀ (f : QueuedFrame) (rest : List QueuedFrame), p.urgent = f :: rest →
            p.normal = [] ∨ p.ratio = .strict ∨ p.ratioCount < [0, 8, 4, 2][p.ratio.byte.toNat]! →
            s.boundary l = { s with lines := s.lines.set l { p with
              urgent := rest
              ratioCount := if p.normal = [] ∨ p.ratio = .strict then 0 else p.ratioCount + 1
              tx := some ⟨.traffic .urgent f, f.cells, time, s.clock, feed f⟩ } })
        ∧ ∀ (f : QueuedFrame) (rest : List QueuedFrame), p.normal = f :: rest →
            p.urgent = [] ∨ (p.ratio ≠ .strict ∧ [0, 8, 4, 2][p.ratio.byte.toNat]! ≤ p.ratioCount) →
            s.boundary l = { s with lines := s.lines.set l { p with
              normal := rest
              ratioCount := 0
              tx := some ⟨.traffic .normal f, f.cells, time, s.clock, feed f⟩ } })

/-- The end of a transmission: for a traffic frame, its cells return to the pool, its path's count falls by 1, FRAMES SENT is counted, and a WITHDRAWING path with none left becomes
vacant with PATH WITHDRAWN; a control frame changes nothing; then the line reaches a frame boundary (R104, R107, R108). The end of a local sending takes the head off the FIFO and counts
DELIVERED FRAMES (R126). A completion not yet reached, by 2.5 ns of core clock a tick (log 10), and an end without a frame, change nothing (log 5). -/
def Obligations.CompletionsFreeTheSender : Prop :=
  (∀ (s : State) (l : Line), (∀ x, (s.lines.get l).tx = some x → 5 * (s.clock - x.started) < 2 * (x.cells * x.cellTime)) →
    exec (.frameCompletion l) s = .next s)
  ∧ (∀ (s : State) (l : Line) (x : Sending), (s.lines.get l).tx = some x → 2 * (x.cells * x.cellTime) ≤ 5 * (s.clock - x.started) →
    let idle : LinePort := { s.lines.get l with tx := none }
    let sent : LinePort := { idle with counters := { idle.counters with framesSent := bump idle.counters.framesSent } }
    ((∃ tag id, x.item = .sound tag id) ∨ (∃ tag id v r, x.item = .echo tag id v r) →
      exec (.frameCompletion l) s = .next (State.boundary { s with lines := s.lines.set l idle } l))
    ∧ ∀ (q : Urgency) (f : QueuedFrame) (i : PathSlot), x.item = .traffic q f → s.IdentitiesUnique →
      (s.paths.get i).life ≠ .vacant → (s.paths.get i).line = l → (s.paths.get i).tag = f.copy.tag →
      let left := (s.paths.get i).queued - 1
      let u : State := { s with lines := s.lines.set l sent, freeCells := s.freeCells + f.cells }
      ((s.paths.get i).life = .withdrawing → left = 0 →
        exec (.frameCompletion l) s = .next (State.boundary { u with paths := s.paths.set i .vacant, nu := s.nu.raisePath .withdrawn i } l))
      ∧ ((s.paths.get i).life ≠ .withdrawing ∨ left ≠ 0 →
        exec (.frameCompletion l) s = .next (State.boundary { u with paths := s.paths.set i { s.paths.get i with queued := left } } l)))
  ∧ (∀ (s : State) (p : Port), (s.ports.get p).fifo = [] → exec (.localSendEnd p) s = .next s)
  ∧ ∀ (s : State) (p : Port) (d : Delivery) (rest : List Delivery), (s.ports.get p).fifo = d :: rest →
    exec (.localSendEnd p) s = .next { s with
      ports := s.ports.set p ⟨rest, { (s.ports.get p).counters with deliveredFrames := bump (s.ports.get p).counters.deliveredFrames }⟩ }

/-! ### Soundings -/

/-- Due paths on lines that can carry them are served in turn: by slot where free contexts remain for all of them; where they do not, the members of the waiting list first, and of two
members, or of two others, the lower slot first. Each whose turn comes while a context is free takes the lowest free one, the next id and its own jitter draw; each other one waits with
every context taken, its deferral counted once. Other paths are untouched, and nothing changes but contexts, schedule, control slots, transmitters and the sounding counters. Nothing is
issued while RESETTING (R23 to R29, R174). That too few contexts are taken up in the order in which R28 gives them out is the model's reading (log 33). -/
def Obligations.DuePathsAreServedInSlotOrder : Prop :=
  ∀ s : State,
    (s.resetting = true → s.serve = s)
    ∧ (s.resetting = false →
        let t := s.serve
        let ready (i : PathSlot) : Bool :=
          s.su.due.mem i.val && decide ((s.lines.get (s.paths.get i).line).grade ≠ 0) && (s.lines.get (s.paths.get i).line).txEnable
        let free (c : ContextId) : Bool := (s.su.contexts.get c).isNone
        let wanted : Nat := (List.finRange 32).countP ready
        let room : Nat := (List.finRange 16).countP free
        let member (i : PathSlot) : Bool := s.su.waiting.mem i.val
        let before (k i : PathSlot) : Bool :=
          if wanted ≤ room then decide (k < i) else (member k && !member i) || (decide (member k = member i) && decide (k < i))
        let turn (i : PathSlot) : Nat := (List.finRange 32).countP fun k => ready k && before k i
        let issued (i : PathSlot) : Prop := ready i = true ∧ turn i < room
        let drawn (n : Nat) : BitVec 16 :=
          (List.range n).foldl (fun v _ => if v.getLsbD 0 then (v >>> 1) ^^^ 0xB400#16 else v >>> 1) s.su.jitter
        t = { s with su := t.su, lines := t.lines, paths := t.paths }
        ∧ (∀ l : Line, t.lines.get l = { s.lines.get l with
            ratioCount := (t.lines.get l).ratioCount, tx := (t.lines.get l).tx, echoes := (t.lines.get l).echoes, sounds := (t.lines.get l).sounds
            counters := { (s.lines.get l).counters with echoesSent := (t.lines.get l).counters.echoesSent } })
        ∧ (∀ i : PathSlot, t.paths.get i = { s.paths.get i with counters := { (s.paths.get i).counters with
            soundingsSent := (t.paths.get i).counters.soundingsSent
            soundingsDeferred :=
              if ready i = true ∧ room ≤ turn i ∧ member i = false then bump (s.paths.get i).counters.soundingsDeferred
              else (s.paths.get i).counters.soundingsDeferred } })
        ∧ (∀ i : PathSlot, ready i = false →
            t.su.due.mem i.val = s.su.due.mem i.val ∧ t.su.waiting.mem i.val = member i ∧ t.su.nextDue.get i = s.su.nextDue.get i)
        ∧ (∀ i : PathSlot, issued i →
            let p := s.paths.get i
            t.su.due.mem i.val = false ∧ t.su.waiting.mem i.val = false
            ∧ t.su.nextDue.get i = some (s.clock / 400 + p.tuning.interval * 1000 + (drawn (turn i + 1)).toNat % (p.tuning.interval * 125 + 1))
            ∧ ∃ (c : ContextId) (x : Context), free c = true ∧ ((List.finRange 16).countP fun m => free m && decide (m < c)) = turn i
                ∧ t.su.contexts.get c = some x ∧ x.path = i ∧ x.line = p.line ∧ x.tag = p.tag ∧ x.id = s.su.nextId + BitVec.ofNat 16 (turn i)
                ∧ x.timeout = [some 25000000, some 5000000, some 10000000, some 45000000, some 100000000].getD p.tuning.timeout none)
        ∧ (∀ i : PathSlot, ready i = true → room ≤ turn i →
            t.su.due.mem i.val = true ∧ t.su.waiting.mem i.val = true ∧ t.su.nextDue.get i = s.su.nextDue.get i ∧ ∀ c : ContextId, t.su.contexts.get c ≠ none)
        ∧ t.su.nextId = s.su.nextId + BitVec.ofNat 16 (min wanted room) ∧ t.su.jitter = drawn (min wanted room)
        ∧ (∀ c : ContextId, free c = true → wanted ≤ ((List.finRange 16).countP fun m => free m && decide (m < c)) → t.su.contexts.get c = none)
        ∧ ∀ (c : ContextId) (x : Context), s.su.contexts.get c = some x → ∃ y, t.su.contexts.get c = some y ∧ y = { x with t1 := y.t1, deadline := y.deadline })

/-- A sounding falls due alone, its time reached: with a free context it takes the lowest one, the id counter's value and a jitter draw, and its SOUND joins the control slot, starting
at once on an IDLE line whose control slot is empty; with no context it is deferred, counted once; on a line that cannot carry it, it waits uncounted (R24 to R30). A context past its
deadline is lost: freed, counted, a lost result in its path's window, and a failed trial (R6, R31, R35). Either command does nothing before its time (log 5), paths of one due time fall
due together (log 14), and a deadline is the sum of T1 and timeout without a width (log 28): the model's readings. -/
def Obligations.SoundingsAreIssuedAndLost : Prop :=
  (∀ (s : State) (i : PathSlot) (at_ : Nat), s.resetting = false → s.su.nextDue.get i = some at_ → at_ ≤ s.clock / 400 → (s.paths.get i).measured = true →
    (∀ k : PathSlot, k ≠ i → s.su.due.mem k.val = false ∧ s.su.nextDue.get k ≠ some at_) →
    let p := s.paths.get i
    let l := s.lines.get p.line
    let usable : Prop := l.grade ≠ 0 ∧ l.txEnable = true
    let due := s.su.due.insert i.val
    (¬ usable → exec (.soundingDue i) s = .next { s with su := { s.su with due := due } })
    ∧ (usable → (∀ c : ContextId, s.su.contexts.get c ≠ none) →
        (s.su.waiting.mem i.val = true → exec (.soundingDue i) s = .next { s with su := { s.su with due := due } })
        ∧ (s.su.waiting.mem i.val = false → exec (.soundingDue i) s = .next { s with
            su := { s.su with due := due, waiting := s.su.waiting.insert i.val }
            paths := s.paths.set i { p with counters := { p.counters with soundingsDeferred := bump p.counters.soundingsDeferred } } }))
    ∧ ∀ c : ContextId, usable → s.su.contexts.get c = none → (∀ m : ContextId, m < c → s.su.contexts.get m ≠ none) →
        let v : BitVec 16 := if s.su.jitter.getLsbD 0 then (s.su.jitter >>> 1) ^^^ 0xB400#16 else s.su.jitter >>> 1
        let timeout : Option Nat := [some 25000000, some 5000000, some 10000000, some 45000000, some 100000000].getD p.tuning.timeout none
        let su (x : Context) : SoundingUnit :=
          { contexts := s.su.contexts.set c (some x)
            nextDue := s.su.nextDue.set i (some (s.clock / 400 + p.tuning.interval * 1000 + v.toNat % (p.tuning.interval * 125 + 1)))
            due := s.su.due.erase i.val
            waiting := s.su.waiting.erase i.val
            nextId := s.su.nextId + 1
            jitter := v }
        (l.tx ≠ none → exec (.soundingDue i) s = .next { s with
          su := su ⟨i, p.line, p.tag, s.su.nextId, timeout, none, none⟩
          lines := s.lines.set p.line { l with sounds := l.sounds ++ [⟨c, p.tag, s.su.nextId⟩] } })
        ∧ (l.tx = none → l.echoes = [] → l.sounds = [] → exec (.soundingDue i) s = .next { s with
          su := su ⟨i, p.line, p.tag, s.su.nextId, timeout, some s.tb.time, timeout.map fun d => s.tb.time.toNat + d⟩
          lines := s.lines.set p.line { l with
            ratioCount := if l.normal = [] then 0 else l.ratioCount
            tx := some ⟨.sound p.tag s.su.nextId, 1, [0, 2560, 1707, 1280, 1024, 853, 640, 512][l.grade.val]!, s.clock,
              withHeaderCheck ([0x02] ++ beBytes 2 (p.tag.toNat * 16) ++ beBytes 2 s.su.nextId.toNat ++ [0, 0, 0, 0, 0, 0, 0, 0, 0])⟩ }
          paths := s.paths.set i { p with counters := { p.counters with soundingsSent := bump p.counters.soundingsSent } } }))
  ∧ (∀ (s : State) (i : PathSlot), s.resetting = false →
    ∃ fell : FlagSet 32,
      (∀ k : PathSlot, fell.mem k.val = true ↔
        (s.paths.get k).measured = true ∧ s.su.nextDue.get k = s.su.nextDue.get i ∧ ∃ at_, s.su.nextDue.get i = some at_ ∧ at_ ≤ s.clock / 400)
      ∧ exec (.soundingDue i) s = .next (State.serve { s with su := { s.su with due := s.su.due ||| fell } }))
  ∧ (∀ (s : State) (c : ContextId) (x : Context) (d : Nat), s.resetting = false → s.su.contexts.get c = some x → x.deadline = some d → d < s.tb.time.toNat →
    let p := s.paths.get x.path
    exec (.soundingLost c) s = .next (State.serve { s with
      su := { s.su with contexts := s.su.contexts.set c none }
      paths := s.paths.set x.path { p with
        counters := { p.counters with soundingsLost := bump p.counters.soundingsLost }
        weather := if p.measured then { p.weather with lostSoundings := bump p.weather.lostSoundings } else p.weather
        goodCount := if p.life = .trial then 0 else p.goodCount
        trialFailed := p.life = .trial || p.trialFailed }
      nu := if p.life = .trial then s.nu.raisePath .trialFailed x.path else s.nu }))
  ∧ ∀ (s : State) (c : ContextId), (∀ x, s.su.contexts.get c = some x → ∀ d, x.deadline = some d → s.tb.time.toNat ≤ d) →
    exec (.soundingLost c) s = .next s

/-- What a path's estimate and trial make of a valid sample of S′ ns (R6, R7, R43 to R49): in TRIAL, judged against the nominal delay, applied without a spike guard and counted toward
the trial count, or a failed trial; IN SERVICE or HELD, applied behind the spike guard with its run of outliers; elsewhere, nothing. -/
def Obligations.SamplesMoveTheEstimate : Prop :=
  ∀ (p : Path) (set : Settings) (sample : Nat),
    let x : Int := sample * 16
    let d : Int := |x - p.e|
    let seeded (q : Path) : Path := { q with e := sample * 16, j := 0, outlierRun := .none, est := .valid, age := 0 }
    let updated : Path := { p with
      e := (p.e + (x - p.e).tdiv (2 ^ p.tuning.shift)).toNat
      j := (max 0 (min (p.j + (d - p.j).tdiv 16) 16000000)).toNat
      age := 0
      outlierRun := .none }
    let applied : Path := if p.est = .valid then updated else seeded p
    let outlying : Path := { p with counters := { p.counters with outliers := bump p.counters.outliers } }
    let side : Side := if (p.e : Int) < x then .above else .below
    (p.life = .trial → set.trialTolerance < (x / 16 - p.tuning.nominal).natAbs →
      p.takeResult set (.valid sample) = ⟨{ p with goodCount := 0, trialFailed := true }, some .trialFailed⟩)
    ∧ (p.life = .trial → (x / 16 - p.tuning.nominal).natAbs ≤ set.trialTolerance →
        (p.goodCount + 1 < set.trialCount → p.takeResult set (.valid sample) = ⟨{ applied with goodCount := p.goodCount + 1 }, none⟩)
        ∧ (set.trialCount ≤ p.goodCount + 1 → p.takeResult set (.valid sample) =
            ⟨{ applied with goodCount := p.goodCount + 1, life := .inService, trialFailed := false }, some .qualified⟩))
    ∧ (p.life = .inService ∨ p.life = .held →
        (p.est ≠ .valid ∨ d ≤ p.tuning.spike * 16 → p.takeResult set (.valid sample) = ⟨applied, none⟩)
        ∧ (p.est = .valid → p.tuning.spike * 16 < d →
            (p.outlierRun ≠ .two side → p.takeResult set (.valid sample) =
              ⟨{ outlying with outlierRun := if p.outlierRun = .one side then .two side else .one side }, none⟩)
            ∧ (p.outlierRun = .two side → p.takeResult set (.valid sample) =
                ⟨seeded { outlying with counters := { outlying.counters with reseeds := bump p.counters.reseeds } }, none⟩)))
    ∧ (p.life = .vacant ∨ p.life = .withdrawing → p.takeResult set (.valid sample) = ⟨p, none⟩)

/-! ### Line frames -/

/-- The bytes of an ECHO frame with a good header check (R145). -/
def echoBytes (tag : BitVec 12) (voided : Bool) (spare : Fin 8) (id : BitVec 16) (residence : BitVec 32) (fill : BitVec 40) : List Byte :=
  withHeaderCheck ([0x03] ++ beBytes 2 (tag.toNat * 16 + (if voided then 8 else 0) + spare.val) ++ beBytes 2 id.toNat ++ beBytes 4 residence.toNat
    ++ beBytes 5 fill.toNat)

/-- The bytes of a SOUND frame with a good header check (R145). -/
def soundBytes (tag : BitVec 12) (spare : Fin 16) (id : BitVec 16) (fill : BitVec 72) : List Byte :=
  withHeaderCheck ([0x02] ++ beBytes 2 (tag.toNat * 16 + spare.val) ++ beBytes 2 id.toNat ++ beBytes 9 fill.toNat)

/-- An ECHO on a line with carrier: with no context of its line, tag and id departed, STRAY is counted; else the context of earliest T1 (of equal ones the lowest, log 20) is freed, and
a voided ECHO counts nothing, a round trip below 0 or above 40,000,000 ns counts BAD ECHO, and any other gives the sample S′ to PT and WM with ECHOES GOOD (R32 to R35). A SOUND makes an
echo entry, or ECHO REFUSED when four stand (R37). T4 and T2 are the stamps taken at the frame's first byte (R133), or TIME for a frame that
arrives whole (log 9). Freed contexts are handed on (R28). -/
def Obligations.EchoesAndSoundsAreTaken : Prop :=
  (∀ (r : State) (l : Line) (tag : BitVec 12) (voided : Bool) (spare : Fin 8) (id : BitVec 16) (residence : BitVec 32) (fill : BitVec 40),
    let s := quietLine r l
    let t4 := stampOnLine r l
    s.resetting = false → (s.lines.get l).rxEnable = true → (s.lines.get l).grade ≠ 0 →
    let frame := echoBytes tag voided spare id residence fill
    let matching (x : Context) (t1 : Stamp) : Prop := x.line = l ∧ x.tag = tag ∧ x.id = id ∧ x.t1 = some t1
    ((∀ (c : ContextId) (x : Context) (t1 : Stamp), s.su.contexts.get c = some x → ¬ matching x t1) →
      exec (.echoFrame l .lastByte frame) r = .next { s with lines := s.lines.set l { s.lines.get l with
        counters := { (s.lines.get l).counters with stray := bump (s.lines.get l).counters.stray } } })
    ∧ ∀ (c : ContextId) (x : Context) (t1 : Stamp), s.su.contexts.get c = some x → matching x t1 →
      (∀ (m : ContextId) (y : Context) (t : Stamp), s.su.contexts.get m = some y → matching y t → t1 < t ∨ (t1 = t ∧ c ≤ m)) →
      let freed : State := { s with su := { s.su with contexts := s.su.contexts.set c none } }
      let rt : Int := t4.toNat - t1.toNat - residence.toNat
      (voided = true → exec (.echoFrame l .lastByte frame) r = .next freed.serve)
      ∧ (voided = false → rt < 0 ∨ 40000000 < rt → exec (.echoFrame l .lastByte frame) r = .next
          (State.serve { freed with lines := s.lines.set l { s.lines.get l with
            counters := { (s.lines.get l).counters with badEcho := bump (s.lines.get l).counters.badEcho } } }))
      ∧ (voided = false → 0 ≤ rt → rt ≤ 40000000 →
          let p : Path := { s.paths.get x.path with counters := { (s.paths.get x.path).counters with
            echoesGood := bump (s.paths.get x.path).counters.echoesGood } }
          let judged := p.takeResult s.settings (.valid (max 0 (min ((rt + 1) / 2 + p.tuning.asymmetry) 20000000)).toNat)
          exec (.echoFrame l .lastByte frame) r = .next (State.serve { freed with
            paths := s.paths.set x.path { judged.path with
              weather := if p.measured then { p.weather with goodResults := bump p.weather.goodResults } else p.weather }
            nu := match judged.raised with
              | none => s.nu
              | some k => s.nu.raisePath k x.path })))
  ∧ ∀ (r : State) (l : Line) (tag : BitVec 12) (spare : Fin 16) (id : BitVec 16) (fill : BitVec 72),
    let s := quietLine r l
    let t2 := stampOnLine r l
    s.resetting = false → (s.lines.get l).rxEnable = true → (s.lines.get l).grade ≠ 0 →
    ((s.lines.get l).echoes.length < 4 →
      exec (.soundFrame l .lastByte (soundBytes tag spare id fill)) r = .next
        (State.boundary { s with lines := s.lines.set l { s.lines.get l with echoes := (s.lines.get l).echoes ++ [⟨tag, id, t2, false⟩] } } l))
    ∧ (4 ≤ (s.lines.get l).echoes.length →
      exec (.soundFrame l .lastByte (soundBytes tag spare id fill)) r = .next { s with lines := s.lines.set l { s.lines.get l with
        counters := { (s.lines.get l).counters with echoRefused := bump (s.lines.get l).counters.echoRefused } } })

/-- The first byte of a frame has its stamp taken from TIME and changes nothing else, whatever row brings it; while RESET_N is low it is not taken (R133, R148, R152, R176). Then the
frames dropped before any unit takes them. On a line: receive off counts RX OFF; no kind byte, an unknown one, a short header, a wrong header check, a FEED length of 0 or above
1,024, or bytes beyond a control header count BAD HEADER; a good FEED, SOUND or ECHO on a LOST line counts NO CARRIER (R65, R111, R148). On a local port: BAD LENGTH, then OVERSIZE,
UNKNOWN FEED and WRONG PORT (R84, R152). Nothing else changes. That a frame comes as these two moments (log 9), and that the bytes decide, whatever row brings
them (log 18), are the model's. -/
def Obligations.BadFramesAreDroppedAndCounted : Prop :=
  (∀ (s : State) (l : Line) (p : Port) (bytes : List Byte),
    (s.cmp.engine = .held →
      exec (.feedFrame l .firstByte bytes) s = .next s ∧ exec (.soundFrame l .firstByte bytes) s = .next s ∧ exec (.echoFrame l .firstByte bytes) s = .next s
      ∧ exec (.modemStatusFrame l .firstByte bytes) s = .next s ∧ exec (.badKindFrame l .firstByte bytes) s = .next s
      ∧ exec (.localFrame p .firstByte bytes) s = .next s)
    ∧ (s.cmp.engine ≠ .held →
      let t : State := { s with lineArrival := s.lineArrival.set l (some s.tb.time) }
      exec (.feedFrame l .firstByte bytes) s = .next t ∧ exec (.soundFrame l .firstByte bytes) s = .next t ∧ exec (.echoFrame l .firstByte bytes) s = .next t
      ∧ exec (.modemStatusFrame l .firstByte bytes) s = .next t ∧ exec (.badKindFrame l .firstByte bytes) s = .next t
      ∧ exec (.localFrame p .firstByte bytes) s = .next { s with portArrival := s.portArrival.set p (some s.tb.time) }))
  ∧ (∀ (r : State) (l : Line) (bytes : List Byte),
    let s := quietLine r l
    s.resetting = false →
    let p := s.lines.get l
    let counted (k : LineCounters) : State := { s with lines := s.lines.set l { p with counters := k } }
    let kind : Byte := bytes.headD 0
    let size : Nat := [0, 32, 16, 16, 8].getD kind.toNat 0
    let short : Prop := size = 0 ∨ bytes.length < size
    let wrong : Prop := headerCheck (bytes.take (size - 2)) ≠ BitVec.ofNat 16 (beValue ((bytes.drop (size - 2)).take 2))
    let unformed : Prop := if kind = 1 then beValue ((bytes.drop 18).take 2) = 0 ∨ 1024 < beValue ((bytes.drop 18).take 2) else bytes.length ≠ size
    let outcome (x : Host.Outcome State Fault Refusal) : Prop :=
      (p.rxEnable = false → x = .next (counted { p.counters with rxOff := bump p.counters.rxOff }))
      ∧ (p.rxEnable = true → short ∨ wrong ∨ unformed → x = .next (counted { p.counters with badHeader := bump p.counters.badHeader }))
      ∧ (p.rxEnable = true → ¬ short → ¬ wrong → ¬ unformed → kind ≠ 4 → p.grade = 0 →
          x = .next (counted { p.counters with noCarrier := bump p.counters.noCarrier }))
    outcome (exec (.feedFrame l .lastByte bytes) r) ∧ outcome (exec (.soundFrame l .lastByte bytes) r) ∧ outcome (exec (.echoFrame l .lastByte bytes) r)
      ∧ outcome (exec (.modemStatusFrame l .lastByte bytes) r) ∧ outcome (exec (.badKindFrame l .lastByte bytes) r))
  ∧ ∀ (r : State) (p : Port),
    let s := quietPort r p
    s.resetting = false →
    let counted (k : PortCounters) : State := { s with ports := s.ports.set p { s.ports.get p with counters := k } }
    let c := (s.ports.get p).counters
    (∀ bytes : List Byte, bytes.length < 5 ∨ bytes.length ≠ 5 + beValue ((bytes.drop 3).take 2) →
      exec (.localFrame p .lastByte bytes) r = .next (counted { c with badLength := bump c.badLength }))
    ∧ ∀ (number : BitVec 16) (kind : Byte) (payload : List Byte), payload.length < 65536 →
      let bytes := beBytes 2 number.toNat ++ [kind] ++ beBytes 2 payload.length ++ payload
      (payload.length = 0 ∨ 1024 < payload.length →
        exec (.localFrame p .lastByte bytes) r = .next (counted { c with oversize := bump c.oversize }))
      ∧ (1 ≤ payload.length → payload.length ≤ 1024 →
          ((∀ k : FeedSlot, (s.feeds.get k).sends → (s.feeds.get k).number ≠ number) →
            exec (.localFrame p .lastByte bytes) r = .next (counted { c with unknownFeed := bump c.unknownFeed }))
          ∧ ∀ k : FeedSlot, s.NumbersUnique → (s.feeds.get k).sends → (s.feeds.get k).number = number → (s.feeds.get k).out.port ≠ p →
            exec (.localFrame p .lastByte bytes) r = .next (counted { c with wrongPort := bump c.wrongPort }))

/-- The bytes of a FEED frame with a good header check (R144): `top` is the copy index, the class and the spare bits, `high` the spare bits of the kind byte. -/
def feedBytes (tag : BitVec 12) (top : Fin 16) (high : Fin 4) (kind : Fin 64) (number : BitVec 16) (sequence : Seq) (origin : Stamp) (length : BitVec 16)
    (check : BitVec 32) (fill : BitVec 48) (payload : List Byte) : List Byte :=
  withHeaderCheck ([0x01] ++ beBytes 2 (tag.toNat * 16 + top.val) ++ [byteOf (high.val * 64 + kind.val)] ++ beBytes 2 number.toNat ++ beBytes 4 sequence.toNat
    ++ beBytes 8 origin.toNat ++ beBytes 2 length.toNat ++ beBytes 4 check.toNat ++ beBytes 6 fill.toNat) ++ payload

/-- A FEED frame on a line with carrier. A payload of another length or check counts BAD PAYLOAD, and errored against its path. Otherwise its path counts it good, and AU takes it: with
no OPEN INBOUND feed of its number UNKNOWN FEED is counted; else the window judges its sequence, its feed counts the judgement, FEED GAP or FEED RESTART is raised, and a frame passed is
offered with its trailer to each port of the mask, refused by a FIFO of 64, and wins for its path (R69, R117 to R122, R124, R125, R127, R129, R149). Passed are the judgements other than
DUPLICATES and TOO OLD; FEED GAP is raised where numbers were lost, FEED RESTART at a re-basing, which counts TOO OLD, RESTARTS and DELIVERED. The arrival stamp in the trailer is the one
taken at the frame's first byte (R133), or TIME for a frame that arrives whole (log 9). -/
def Obligations.FeedFramesAreDelivered : Prop :=
  ∀ (r : State) (l : Line) (tag : BitVec 12) (top : Fin 16) (high : Fin 4) (kind : Fin 64) (number : BitVec 16) (sequence : Seq)
    (origin : Stamp) (length : BitVec 16) (check : BitVec 32) (fill : BitVec 48) (payload : List Byte) (path : Option PathSlot),
    let s := quietLine r l
    let arrival := stampOnLine r l
    s.resetting = false → (s.lines.get l).rxEnable = true → (s.lines.get l).grade ≠ 0 → 1 ≤ length.toNat → length.toNat ≤ 1024 →
    (∀ i : PathSlot, path = some i ↔ (s.paths.get i).life ≠ .vacant ∧ (s.paths.get i).line = l ∧ (s.paths.get i).tag = tag) →
    let frame := feedBytes tag top high kind number sequence origin length check fill payload
    let counted (good : Bool) (p : Path) : Path :=
      if p.measured then
        if good then { p with weather := { p.weather with goodFrames := bump p.weather.goodFrames } }
        else { p with weather := { p.weather with erroredFrames := bump p.weather.erroredFrames } }
      else p
    let pathsAfter (f : Path → Path) : Table Path 32 := match path with
      | none => s.paths
      | some i => s.paths.set i (f (s.paths.get i))
    let line := s.lines.get l
    (payload.length ≠ length.toNat ∨ payloadCheck payload ≠ check →
      exec (.feedFrame l .lastByte frame) r = .next { s with
        lines := s.lines.set l { line with counters := { line.counters with badPayload := bump line.counters.badPayload } }
        paths := pathsAfter (counted false) })
    ∧ (payload.length = length.toNat → payloadCheck payload = check →
        ((∀ k : FeedSlot, ¬ ((s.feeds.get k).opened = true ∧ (s.feeds.get k).direction = .inbound ∧ (s.feeds.get k).number = number)) →
          exec (.feedFrame l .lastByte frame) r = .next { s with
            lines := s.lines.set l { line with counters := { line.counters with unknownFeed := bump line.counters.unknownFeed } }
            paths := pathsAfter (counted true) })
        ∧ ∀ k : FeedSlot, s.NumbersUnique → (s.feeds.get k).opened = true → (s.feeds.get k).direction = .inbound → (s.feeds.get k).number = number →
          let b := (s.feeds.get k).inb
          let judged := b.window.judge (2 ^ b.sizeCode) b.start sequence
          let x := b.counters
          let counts : InCounters := match judged.2 with
            | .adopted => { x with delivered := bump x.delivered }
            | .advanced n => { x with delivered := bump x.delivered, lost := satAdd x.lost n }
            | .lateFill => { x with delivered := bump x.delivered, lateFills := bump x.lateFills }
            | .duplicate => { x with duplicates := bump x.duplicates }
            | .tooOld => { x with tooOld := bump x.tooOld }
            | .restarted => { x with delivered := bump x.delivered, tooOld := bump x.tooOld, restarts := bump x.restarts }
          let raised (j : Fin 2) : NoticeUnit :=
            { s.nu with flags := s.nu.flags.insert (9 + j.val), feedSets := s.nu.feedSets.set j ((s.nu.feedSets.get j).insert k.val) }
          let nu : NoticeUnit := match judged.2 with
            | .advanced 0 => s.nu
            | .advanced (_ + 1) => raised 0
            | .restarted => raised 1
            | .adopted => s.nu
            | .lateFill => s.nu
            | .duplicate => s.nu
            | .tooOld => s.nu
          (judged.2 = .duplicate ∨ judged.2 = .tooOld → exec (.feedFrame l .lastByte frame) r = .next { s with
            paths := pathsAfter (counted true)
            feeds := s.feeds.set k { s.feeds.get k with inb := { b with window := judged.1, counters := counts } }
            nu := nu })
          ∧ (judged.2 ≠ .duplicate → judged.2 ≠ .tooOld →
              ∃ t, exec (.feedFrame l .lastByte frame) r = .next t
                ∧ t = { s with
                    paths := pathsAfter fun p => { counted true p with wins := bump p.wins }
                    feeds := s.feeds.set k { s.feeds.get k with inb := { b with
                      window := judged.1
                      counters := { counts with
                        deliveryDrop := satAdd x.deliveryDrop
                          ((List.finRange 4).countP fun q => b.mask.mem q.val && decide (64 ≤ (s.ports.get q).fifo.length)) } } }
                    ports := t.ports
                    nu := nu }
                ∧ ∀ q : Port, t.ports.get q =
                    if b.mask.mem q.val = true then
                      if 64 ≤ (s.ports.get q).fifo.length then
                        ⟨(s.ports.get q).fifo, { (s.ports.get q).counters with deliveryDrop := bump (s.ports.get q).counters.deliveryDrop }⟩
                      else
                        ⟨(s.ports.get q).fifo ++ [⟨number, kind, payload, origin, arrival, path, l, top.val / 8 = 1⟩], (s.ports.get q).counters⟩
                    else s.ports.get q))

/-- How a window of w = 2^n numbers, n from 4 to 8, judges sequence s by its signed distance d from H: above H it advances, counting as lost the numbers that leave unseen and those
jumped over; within the window it is a late fill or a duplicate; below it is too old, and the fourth in a row re-bases; an EMPTY window starts by its start mode (R118 to R122). -/
def Obligations.WindowsJudgeArrivals : Prop :=
  ∀ (n : Nat) (x : SeqWindow) (start : StartMode) (s : Seq), 4 ≤ n → n ≤ 8 →
    let w := 2 ^ n
    let flag (y : SeqWindow) (m : Seq) : Bool := y.seen.getLsbD (m.toNat % w)
    let d : Int := (s - x.high).toInt
    let based (h : Seq) (y : SeqWindow) : Prop := y.live = true ∧ y.high = h ∧ y.tooOldRun = 0 ∧ ∀ m : Seq, flag y m = true
    (x.live = true →
      (0 < d →
        ∃ y, y.live = true ∧ y.high = s ∧ y.tooOldRun = 0
          ∧ (∀ k : Nat, k < w → flag y (s - BitVec.ofNat 32 k) = if k = 0 then true else if (k : Int) < d then false else flag x (s - BitVec.ofNat 32 k))
          ∧ x.judge w start s =
              (y, .advanced (((List.range (min d.toNat w)).countP fun k => !flag x (x.high - BitVec.ofNat 32 (w - 1) + BitVec.ofNat 32 k)) + (d.toNat - w))))
      ∧ (-(w : Int) < d → d ≤ 0 →
          (flag x s = true → x.judge w start s = ({ x with tooOldRun := 0 }, .duplicate))
          ∧ (flag x s = false →
              ∃ y, y = { x with seen := y.seen, tooOldRun := 0 } ∧ (∀ m : Seq, flag y m = (flag x m || decide (m.toNat % w = s.toNat % w)))
                ∧ x.judge w start s = (y, .lateFill)))
      ∧ (d ≤ -(w : Int) →
          (x.tooOldRun < 3 → x.judge w start s = ({ x with tooOldRun := x.tooOldRun + 1 }, .tooOld))
          ∧ (3 ≤ x.tooOldRun → ∃ y, based s y ∧ x.judge w start s = (y, .restarted))))
    ∧ (x.live = false →
        (start = .adopt → ∃ y, based s y ∧ x.judge w start s = (y, .adopted))
        ∧ ∀ e : Seq, start = .expect e → ∃ y, based (e - 1) y ∧ x.judge w start s = y.judge w start s)

/-- The sequence numbers that a window passes from a list of arrivals, and whether one of them re-based it. -/
def passedBy (w : Nat) (start : StartMode) : SeqWindow → List Seq → List Seq × Bool
  | _, [] => ([], false)
  | x, s :: rest =>
    let judged := x.judge w start s
    let later := passedBy w start judged.1 rest
    (if judged.2.passes then s :: later.1 else later.1, judged.2 == .restarted || later.2)

/-- Between two re-basings of a window, no sequence number is delivered twice, as long as the arrivals lie within half a turn of the numbers from the window's lower end (R128). -/
def Obligations.NoSequenceIsPassedTwice : Prop :=
  ∀ (n : Nat) (x : SeqWindow) (start : StartMode) (arrivals : List Seq), 4 ≤ n → n ≤ 8 → x.live = true → x.seen.getLsbD (x.high.toNat % 2 ^ n) = true →
    (∀ s ∈ arrivals, (s - (x.high - BitVec.ofNat 32 (2 ^ n - 1))).toNat < 2 ^ 31) →
    (passedBy (2 ^ n) start x arrivals).2 = false →
    (passedBy (2 ^ n) start x arrivals).1.Nodup

/-! ### Outbound messages -/

/-- How an accepted message's lead is settled (R89, R90, R91): an eligible pin; else B, the eligible path of lowest cost with ties to the lower slot, unless an eligible lead costs at
most the margin more. The reason is PIN, LOST or COST, or FALLBACK and RESTORE when the medium changes. -/
def Obligations.LeadsAreChosenByPinAndCost : Prop :=
  ∀ (s : State) (o : OutFields) (c : Urgency) (b : PathSlot),
    let radio (i : PathSlot) : Bool := (s.paths.get i).line.val < 4
    let reason (base : Reason) : Reason := match o.lead with
      | none => base
      | some l => if radio l && !radio b then .fallback else if !radio l && radio b then .restore else base
    let pinned : Prop := ∃ p, o.pin = some p ∧ s.eligible o.pathSet p = true
    (s.eligible o.pathSet b = true →
      (∀ i : PathSlot, s.eligible o.pathSet i = true → s.cost c b < s.cost c i ∨ (s.cost c b = s.cost c i ∧ b ≤ i)) →
      lowestBy (s.cost c) (s.eligiblePaths o.pathSet) = some b)
    ∧ ((∀ i : PathSlot, s.eligible o.pathSet i = false) → lowestBy (s.cost c) (s.eligiblePaths o.pathSet) = none)
    ∧ (∀ p, o.pin = some p → s.eligible o.pathSet p = true → s.chooseLead o c b = (p, .pin))
    ∧ (¬ pinned → (∀ l, o.lead = some l → s.eligible o.pathSet l = false) → s.chooseLead o c b = (b, reason .lost))
    ∧ ∀ l, ¬ pinned → o.lead = some l → s.eligible o.pathSet l = true →
        (s.cost c b + s.settings.switchMargin < s.cost c l → s.chooseLead o c b = (b, reason .cost))
        ∧ (s.cost c l ≤ s.cost c b + s.settings.switchMargin → (s.chooseLead o c b).1 = l)

/-- The bytes of a local frame (R152). -/
def localBytes (number : BitVec 16) (high : Fin 4) (kind : Fin 64) (payload : List Byte) : List Byte :=
  beBytes 2 number.toNat ++ [byteOf (high.val * 64 + kind.val)] ++ beBytes 2 payload.length ++ payload

/-- A local frame for an OPEN OUTBOUND feed of its port. At the rate limit it is dropped as RATE DROP. Else it takes the next sequence and its class, and the rate count and ACCEPTED go
up. With an eligible path the settled lead gets copy 0, and for a copies count of 2 the cheapest eligible path on another line gets copy 1, or SINGLE SENDS is counted; a change of lead
goes to NU. With none eligible a present lead is cleared with DISTRESS, and the IN SERVICE member of lowest nominal delay on a usable line gets the copy as DISTRESSED, or the message is
dropped as NO PATH (R85, R86, R87, R91 to R94). The origin stamp of the copies is the one taken at the frame's first byte (R84, R133), or TIME for a frame
that arrives whole (log 9). -/
def Obligations.MessagesAreSent : Prop :=
  ∀ (r : State) (p : Port) (number : BitVec 16) (high : Fin 4) (kind : Fin 64) (payload : List Byte) (k : FeedSlot),
    let s := quietPort r p
    let origin := stampOnPort r p
    s.resetting = false → s.NumbersUnique → (s.feeds.get k).sends → (s.feeds.get k).number = number → (s.feeds.get k).out.port = p →
    1 ≤ payload.length → payload.length ≤ 1024 →
    let f := s.feeds.get k
    let o := f.out
    let frame := localBytes number high kind payload
    let urgent : Prop := (s.classMap.mem kind.val = true ∨ o.defaultUrgency = .urgent) ∧ o.ceiling = .urgent
    let opened : Prop := o.rateLimit = 0 ∨ o.rateCount < o.rateLimit
    (¬ opened → exec (.localFrame p .lastByte frame) r = .next { s with
      feeds := s.feeds.set k { f with out := { o with counters := { o.counters with rateDrop := bump o.counters.rateDrop } } } })
    ∧ (opened → ∀ c : Urgency, (c = .urgent ↔ urgent) →
        let copy (i : PathSlot) (second : Bool) : Copy :=
          ⟨(s.paths.get i).line, (s.paths.get i).tag, c, number, o.nextSeq, origin, kind, payload, second⟩
        let taken (lead : Option PathSlot) (reason : Reason) (counts : OutCounters → OutCounters) : State :=
          { s with
            feeds := s.feeds.set k { f with out := { o with
              lead := lead
              rateCount := bump o.rateCount
              nextSeq := o.nextSeq + 1
              counters := counts { o.counters with accepted := bump o.counters.accepted } } }
            nu := if lead = o.lead then s.nu else s.nu.take ⟨k, number, o.lead, lead, reason, s.tb.time⟩ }
        (∀ b : PathSlot, lowestBy (s.cost c) (s.eligiblePaths o.pathSet) = some b →
          let lead := (s.chooseLead o c b).1
          let reason := (s.chooseLead o c b).2
          (o.twoCopies = false →
            exec (.localFrame p .lastByte frame) r = .next ((taken (some lead) reason id).handOver k lead (copy lead false)))
          ∧ (o.twoCopies = true →
              ((∀ i : PathSlot, s.eligible o.pathSet i = true → (s.paths.get i).line = (s.paths.get lead).line) →
                exec (.localFrame p .lastByte frame) r = .next
                  ((taken (some lead) reason fun x => { x with singleSends := bump x.singleSends }).handOver k lead (copy lead false)))
              ∧ ∀ m : PathSlot, s.eligible o.pathSet m = true → (s.paths.get m).line ≠ (s.paths.get lead).line →
                (∀ i : PathSlot, s.eligible o.pathSet i = true → (s.paths.get i).line ≠ (s.paths.get lead).line →
                  s.cost c m < s.cost c i ∨ (s.cost c m = s.cost c i ∧ m ≤ i)) →
                exec (.localFrame p .lastByte frame) r = .next
                  (((taken (some lead) reason id).handOver k lead (copy lead false)).handOver k m (copy m true))))
        ∧ ((∀ i : PathSlot, s.eligible o.pathSet i = false) →
            let candidate (i : PathSlot) : Prop := o.pathSet.mem i.val = true ∧ (s.paths.get i).life = .inService
              ∧ (s.lines.get (s.paths.get i).line).grade ≠ 0 ∧ (s.lines.get (s.paths.get i).line).txEnable = true
            ((∀ i : PathSlot, ¬ candidate i) →
              exec (.localFrame p .lastByte frame) r = .next (taken none .distress fun x => { x with noPath := bump x.noPath }))
            ∧ ∀ i : PathSlot, candidate i →
              (∀ m : PathSlot, candidate m → (s.paths.get i).tuning.nominal < (s.paths.get m).tuning.nominal
                ∨ ((s.paths.get i).tuning.nominal = (s.paths.get m).tuning.nominal ∧ i ≤ m)) →
              exec (.localFrame p .lastByte frame) r = .next
                ((taken none .distress fun x => { x with distressed := bump x.distressed }).handOver k i (copy i false))))

/-- A copy handed to LQM: with its path known and its test held it joins the tail of its class's queue on its line, its cells leave the pool, its path counts a queued frame, an IDLE line
reaches a boundary, and COPIES SENT is counted; else it is dropped, BUSY DROP counted on the line and on the feed by its index, and nothing else changes (R94, R98, R100, R101, R102). -/
def Obligations.CopiesAreAdmittedOrDropped : Prop :=
  ∀ (s : State) (k : FeedSlot) (i : PathSlot) (c : Copy),
    let p := s.paths.get i
    let l := s.lines.get c.line
    let cells := (32 + c.payload.length + 63) / 64
    let held (m : Line) (u : Urgency) : Nat := (s.lines.get m).cells u
    let reserve : Nat := if s.settings.reserve then ((List.finRange 6).map fun m => 32 - held m .urgent).sum else 0
    let fits : Prop := (match c.urgency with | .urgent => cells ≤ s.freeCells | .normal => cells + reserve ≤ s.freeCells)
      ∧ (s.settings.share = .isolated → held c.line .urgent + held c.line .normal + cells ≤ 682)
    let known : Prop := ∃ m : PathSlot, (s.paths.get m).life ≠ .vacant ∧ (s.paths.get m).line = c.line ∧ (s.paths.get m).tag = c.tag
    let frame : QueuedFrame := ⟨c, cells, payloadCheck c.payload⟩
    (s.IdentitiesUnique → p.life ≠ .vacant → p.line = c.line → p.tag = c.tag → fits →
      let t := State.boundary { s with
          lines := s.lines.set c.line (match c.urgency with
            | .urgent => { l with urgent := l.urgent ++ [frame] }
            | .normal => { l with normal := l.normal ++ [frame] })
          freeCells := s.freeCells - cells
          paths := s.paths.set i { p with queued := p.queued + 1 } } c.line
      s.handOver k i c = { t with paths := t.paths.set i { t.paths.get i with
        counters := { (t.paths.get i).counters with copiesSent := bump (t.paths.get i).counters.copiesSent } } })
    ∧ (¬ known ∨ ¬ fits → s.handOver k i c = { s with
        lines := s.lines.set c.line { l with counters := { l.counters with busyDrop := bump l.counters.busyDrop } }
        feeds := s.feeds.set k { s.feeds.get k with out := { (s.feeds.get k).out with
          counters := if c.second then { (s.feeds.get k).out.counters with busyDrop1 := bump (s.feeds.get k).out.counters.busyDrop1 }
            else { (s.feeds.get k).out.counters with busyDrop0 := bump (s.feeds.get k).out.counters.busyDrop0 } } } })

/-! ### Invariants that every step keeps -/

/-- Every step keeps the pool whole: the free cells and the cells of all frames in the line queues, with those in transmission, add to 4,096 (R98). -/
def Obligations.EveryStepKeepsThePoolWhole : Prop := ∀ s t : State, s.PoolWhole → step s = .next t → t.PoolWhole

/-- Every step keeps identities unique and the queued frames counted: no two paths outside VACANT share line and route tag, every path's count is that of the frames under its identity,
and no frame is queued without such a path (R1, R15, R108). -/
def Obligations.EveryStepKeepsQueuesCounted : Prop :=
  ∀ s t : State, s.IdentitiesUnique → s.QueuesCounted → step s = .next t → t.IdentitiesUnique ∧ t.QueuesCounted

/-- Every step keeps each occupied context on a measured path of its line and tag with carrier present, and each due or waiting path measured (R23, R25, R28). -/
def Obligations.EveryStepKeepsSoundingsLive : Prop := ∀ s t : State, s.SoundingsLive → step s = .next t → t.SoundingsLive

/-- Every step keeps OPEN numbers unique in each direction, path sets on measured paths, and pins and leads members of their sets (R77, R79, R90). -/
def Obligations.EveryStepKeepsFeedsSound : Prop := ∀ s t : State, s.FeedsSound → step s = .next t → t.FeedsSound

/-- Every step keeps the latch's slot out of the pending set, the set empty while the latch is EMPTY, and its members OPEN OUTBOUND feeds (R159). -/
def Obligations.EveryStepKeepsNoticesOrderly : Prop := ∀ s t : State, s.NoticesOrderly → step s = .next t → t.NoticesOrderly

/-- Every step keeps the lists within their sizes and every value with a range in it: echo slots, FIFOs, ratio counters, too-old runs, settings, tuning, estimates, STEP and slew (R4,
R21, R37, R50, R58, R74, R96, R121, R126, R132, R136). -/
def Obligations.EveryStepKeepsValuesInRange : Prop :=
  ∀ s t : State, s.ListsBounded → s.ValuesInRange → step s = .next t → t.ListsBounded ∧ t.ValuesInRange
end

