-- ==== Sys2Proof/Laws/Bytes.lean ====
section
/-! SUPPORT. Reading back what `beBytes` writes, fields of a joined list of bytes, and counts that saturate. -/

namespace Sys2Proof.Machine

@[simp] theorem length_beBytes (n v : Nat) : (beBytes n v).length = n := by
  induction n generalizing v with
  | zero => rfl
  | succ n ih => simp [beBytes, ih]

/-- The number of joined bytes. -/
theorem beValue_append (a b : List Byte) : beValue (a ++ b) = beValue a * 256 ^ b.length + beValue b := by
  have h : ∀ (l : List Byte) (x : Nat),
      l.foldl (fun a b => a * 256 + b.toNat) x = x * 256 ^ l.length + l.foldl (fun a b => a * 256 + b.toNat) 0 := by
    intro l
    induction l with
    | nil => intro x; simp
    | cons c l ih =>
      intro x
      rw [List.foldl_cons, List.foldl_cons, ih (x * 256 + c.toNat), ih (0 * 256 + c.toNat), List.length_cons]
      ring
  rw [beValue, List.foldl_append, h]
  rfl

@[simp] theorem beValue_nil : beValue [] = 0 := rfl

@[simp] theorem beValue_singleton (b : Byte) : beValue [b] = b.toNat := by simp [beValue]

/-- What `n` bytes of a number spell: the number modulo 256 to the `n`. -/
@[simp] theorem beValue_beBytes (n v : Nat) : beValue (beBytes n v) = v % 256 ^ n := by
  induction n generalizing v with
  | zero => simp [beBytes, Nat.mod_one]
  | succ n ih =>
    have h : v % 256 ^ (n + 1) = v % 256 + 256 * (v / 256 % 256 ^ n) := by rw [Nat.pow_succ', Nat.mod_mul]
    rw [beBytes, beValue_append, ih, beValue_singleton, List.length_singleton, pow_one, BitVec.toNat_ofNat, h]
    norm_num
    omega

/-- A field that lies in the first of two joined parts. -/
theorem field_append_left (a b : List Byte) (i n : Nat) (h : i + n ≤ a.length) : field (a ++ b) i n = field a i n := by
  rw [field, field, List.drop_append_of_le_length (by omega), List.take_append_of_le_length (by rw [List.length_drop]; omega)]

/-- A field that lies behind the first of two joined parts. -/
theorem field_append_right (a b : List Byte) (i n : Nat) (h : a.length ≤ i) : field (a ++ b) i n = field b (i - a.length) n := by
  rw [field, field, List.drop_append, List.drop_eq_nil_of_le h, List.nil_append]

/-- The field that is a whole list of bytes. -/
theorem field_whole (a : List Byte) (n : Nat) (h : a.length = n) : field a 0 n = beValue a := by
  rw [field, List.drop_zero, List.take_of_length_le h.le]

/-- A field behind the first byte. -/
theorem field_cons (b : Byte) (a : List Byte) (i n : Nat) : field (b :: a) (i + 1) n = field a i n := by
  rw [field, field, List.drop_succ_cons]

/-- The first byte as a field. -/
@[simp] theorem field_cons_zero_one (b : Byte) (a : List Byte) : field (b :: a) 0 1 = b.toNat := by simp [field]

/-- A signed 32-bit value comes back from its 4 bytes (R171). -/
theorem signed32_ofInt (v : Int) (h1 : -2147483648 ≤ v) (h2 : v < 2147483648) : signed32 (BitVec.ofInt 32 v).toNat = v := by
  rw [signed32, BitVec.ofNat_toNat, BitVec.setWidth_eq, BitVec.toInt_ofInt]
  exact Int.bmod_eq_of_le (by simpa using h1) (by simpa using h2)

/-- A count after `n` more, as a number. -/
theorem toNat_satAdd {w : Nat} (c : BitVec w) (n : Nat) : (satAdd c n).toNat = min (c.toNat + n) (2 ^ w - 1) := by
  have : 0 < 2 ^ w := Nat.two_pow_pos w
  rw [satAdd, BitVec.toNat_ofNat, Nat.mod_eq_of_lt (by omega)]

/-- A count after one more, as a number. -/
theorem toNat_bump {w : Nat} (c : BitVec w) : (bump c).toNat = min (c.toNat + 1) (2 ^ w - 1) := toNat_satAdd c 1

/-- A saturating count is never below what it was. -/
theorem le_satAdd {w : Nat} (c : BitVec w) (n : Nat) : c.toNat ≤ (satAdd c n).toNat := by
  rw [toNat_satAdd]
  have := c.isLt
  omega

/-- A clamped value lies in its range. -/
theorem clampNat_mem {lo hi : Nat} (h : lo ≤ hi) (v : Nat) : lo ≤ clampNat lo hi v ∧ clampNat lo hi v ≤ hi := by unfold clampNat; omega

/-- A value in its range is kept. -/
theorem clampNat_of_mem {lo hi v : Nat} (h1 : lo ≤ v) (h2 : v ≤ hi) : clampNat lo hi v = v := by unfold clampNat; omega

/-- A clamped value lies in its range. -/
theorem clampInt_mem {lo hi : Int} (h : lo ≤ hi) (v : Int) : lo ≤ clampInt lo hi v ∧ clampInt lo hi v ≤ hi := by unfold clampInt; omega

/-- A value in its range is kept. -/
theorem clampInt_of_mem {lo hi v : Int} (h1 : lo ≤ v) (h2 : v ≤ hi) : clampInt lo hi v = v := by unfold clampInt; omega

end Sys2Proof.Machine
end

