-- ==== Sys2Proof/Laws/PerInstr.lean ====
section
/-! SUPPORT. A statement made of every command, with one lemma per constructor: a well-formed request carries a code of the catalogue, unless it is the one that stands for every
other code (R166, 11.5). -/

namespace Sys2Proof.Laws.CatalogueCode

/-- A well-formed request has a length in the catalogue exactly when it is not the command of an unknown code. -/
def Statement (i : Instr) : Prop :=
  ∀ code body, i.asRequest = some (code, body) → i.wellFormed = true → (requestLengths code = [] ↔ i = .unknownCommand code body)

/-- A code with no length in the catalogue is one that names no command, or one of the two reading transactions. -/
theorem lengths_of_unknown : ∀ code : Byte, catalogueCodes.contains code = false → requestLengths code = [] := by decide

theorem readStatus (x0 : Bool) : Statement (.readStatus x0) := by
  intro code body h
  cases h

theorem readResponse (x0 : Nat) : Statement (.readResponse x0) := by
  intro code body h
  cases h

theorem identRead (x0 : List Byte) : Statement (.identRead x0) := by
  intro code body h _
  cases h
  exact iff_of_false (by decide) nofun

theorem softReset (x0 : List Byte) : Statement (.softReset x0) := by
  intro code body h _
  cases h
  exact iff_of_false (by decide) nofun

theorem endOfWalk : Statement (.endOfWalk) := by
  intro code body h
  cases h

theorem seed (x0 : List Byte) : Statement (.seed x0) := by
  intro code body h _
  cases h
  exact iff_of_false (by decide) nofun

theorem pathAdd (x0 : List Byte) : Statement (.pathAdd x0) := by
  intro code body h _
  cases h
  exact iff_of_false (by decide) nofun

theorem pathSet (x0 : List Byte) : Statement (.pathSet x0) := by
  intro code body h _
  cases h
  exact iff_of_false (by decide) nofun

theorem pathHold (x0 : List Byte) : Statement (.pathHold x0) := by
  intro code body h _
  cases h
  exact iff_of_false (by decide) nofun

theorem pathRelease (x0 : List Byte) : Statement (.pathRelease x0) := by
  intro code body h _
  cases h
  exact iff_of_false (by decide) nofun

theorem pathRequalify (x0 : List Byte) : Statement (.pathRequalify x0) := by
  intro code body h _
  cases h
  exact iff_of_false (by decide) nofun

theorem pathRetire (x0 : List Byte) : Statement (.pathRetire x0) := by
  intro code body h _
  cases h
  exact iff_of_false (by decide) nofun

theorem pathRead (x0 : List Byte) : Statement (.pathRead x0) := by
  intro code body h _
  cases h
  exact iff_of_false (by decide) nofun

theorem pathFind (x0 : List Byte) : Statement (.pathFind x0) := by
  intro code body h _
  cases h
  exact iff_of_false (by decide) nofun

theorem feedOpen (x0 : List Byte) : Statement (.feedOpen x0) := by
  intro code body h _
  cases h
  exact iff_of_false (by decide) nofun

theorem feedSet (x0 : List Byte) : Statement (.feedSet x0) := by
  intro code body h _
  cases h
  exact iff_of_false (by decide) nofun

theorem feedClose (x0 : List Byte) : Statement (.feedClose x0) := by
  intro code body h _
  cases h
  exact iff_of_false (by decide) nofun

theorem feedRead (x0 : List Byte) : Statement (.feedRead x0) := by
  intro code body h _
  cases h
  exact iff_of_false (by decide) nofun

theorem feedFind (x0 : List Byte) : Statement (.feedFind x0) := by
  intro code body h _
  cases h
  exact iff_of_false (by decide) nofun

theorem feedScan (x0 : List Byte) : Statement (.feedScan x0) := by
  intro code body h _
  cases h
  exact iff_of_false (by decide) nofun

theorem rankRead (x0 : List Byte) : Statement (.rankRead x0) := by
  intro code body h _
  cases h
  exact iff_of_false (by decide) nofun

theorem classSet (x0 : List Byte) : Statement (.classSet x0) := by
  intro code body h _
  cases h
  exact iff_of_false (by decide) nofun

theorem systemSet (x0 : List Byte) : Statement (.systemSet x0) := by
  intro code body h _
  cases h
  exact iff_of_false (by decide) nofun

theorem lineSet (x0 : List Byte) : Statement (.lineSet x0) := by
  intro code body h _
  cases h
  exact iff_of_false (by decide) nofun

theorem lineRead (x0 : List Byte) : Statement (.lineRead x0) := by
  intro code body h _
  cases h
  exact iff_of_false (by decide) nofun

theorem timeRead (x0 : List Byte) : Statement (.timeRead x0) := by
  intro code body h _
  cases h
  exact iff_of_false (by decide) nofun

theorem timeSetNow (x0 : List Byte) : Statement (.timeSetNow x0) := by
  intro code body h _
  cases h
  exact iff_of_false (by decide) nofun

theorem timeSetAtPps (x0 : List Byte) : Statement (.timeSetAtPps x0) := by
  intro code body h _
  cases h
  exact iff_of_false (by decide) nofun

theorem timeStep (x0 : List Byte) : Statement (.timeStep x0) := by
  intro code body h _
  cases h
  exact iff_of_false (by decide) nofun

theorem timeSlew (x0 : List Byte) : Statement (.timeSlew x0) := by
  intro code body h _
  cases h
  exact iff_of_false (by decide) nofun

theorem timeRate (x0 : List Byte) : Statement (.timeRate x0) := by
  intro code body h _
  cases h
  exact iff_of_false (by decide) nofun

theorem ppsRead (x0 : List Byte) : Statement (.ppsRead x0) := by
  intro code body h _
  cases h
  exact iff_of_false (by decide) nofun

theorem eventRead (x0 : List Byte) : Statement (.eventRead x0) := by
  intro code body h _
  cases h
  exact iff_of_false (by decide) nofun

theorem eventClear (x0 : List Byte) : Statement (.eventClear x0) := by
  intro code body h _
  cases h
  exact iff_of_false (by decide) nofun

theorem eventMask (x0 : List Byte) : Statement (.eventMask x0) := by
  intro code body h _
  cases h
  exact iff_of_false (by decide) nofun

theorem noticeRead (x0 : List Byte) : Statement (.noticeRead x0) := by
  intro code body h _
  cases h
  exact iff_of_false (by decide) nofun

theorem noticeClear (x0 : List Byte) : Statement (.noticeClear x0) := by
  intro code body h _
  cases h
  exact iff_of_false (by decide) nofun

theorem hardwareReset (x0 : ResetLevel) : Statement (.hardwareReset x0) := by
  intro code body h
  cases h

theorem initialisationEnd : Statement (.initialisationEnd) := by
  intro code body h
  cases h

theorem ppsEdge : Statement (.ppsEdge) := by
  intro code body h
  cases h

theorem timeSetExpiry : Statement (.timeSetExpiry) := by
  intro code body h
  cases h

theorem coreTick (x0 : Nat) : Statement (.coreTick x0) := by
  intro code body h
  cases h

theorem slewCorrection : Statement (.slewCorrection) := by
  intro code body h
  cases h

theorem msTick : Statement (.msTick) := by
  intro code body h
  cases h

theorem windowClose : Statement (.windowClose) := by
  intro code body h
  cases h

theorem statusTimerExpiry (x0 : RadioLine) : Statement (.statusTimerExpiry x0) := by
  intro code body h
  cases h

theorem soundingDue (x0 : PathSlot) : Statement (.soundingDue x0) := by
  intro code body h
  cases h

theorem soundingLost (x0 : ContextId) : Statement (.soundingLost x0) := by
  intro code body h
  cases h

theorem feedFrame (x0 : Line) (x1 : Arrival) (x2 : List Byte) : Statement (.feedFrame x0 x1 x2) := by
  intro code body h
  cases h

theorem soundFrame (x0 : Line) (x1 : Arrival) (x2 : List Byte) : Statement (.soundFrame x0 x1 x2) := by
  intro code body h
  cases h

theorem echoFrame (x0 : Line) (x1 : Arrival) (x2 : List Byte) : Statement (.echoFrame x0 x1 x2) := by
  intro code body h
  cases h

theorem modemStatusFrame (x0 : Line) (x1 : Arrival) (x2 : List Byte) : Statement (.modemStatusFrame x0 x1 x2) := by
  intro code body h
  cases h

theorem badKindFrame (x0 : Line) (x1 : Arrival) (x2 : List Byte) : Statement (.badKindFrame x0 x1 x2) := by
  intro code body h
  cases h

theorem localFrame (x0 : Port) (x1 : Arrival) (x2 : List Byte) : Statement (.localFrame x0 x1 x2) := by
  intro code body h
  cases h

theorem presentNInactive (x0 : RadioLine) : Statement (.presentNInactive x0) := by
  intro code body h
  cases h

theorem presentNActive (x0 : RadioLine) : Statement (.presentNActive x0) := by
  intro code body h
  cases h

theorem lockGained (x0 : FibreLine) : Statement (.lockGained x0) := by
  intro code body h
  cases h

theorem lockLost (x0 : FibreLine) : Statement (.lockLost x0) := by
  intro code body h
  cases h

theorem frameCompletion (x0 : Line) : Statement (.frameCompletion x0) := by
  intro code body h
  cases h

theorem localSendEnd (x0 : Port) : Statement (.localSendEnd x0) := by
  intro code body h
  cases h

theorem commandCompletion : Statement (.commandCompletion) := by
  intro code body h
  cases h

theorem unknownCommand (x0 : Byte) (x1 : List Byte) : Statement (.unknownCommand x0 x1) := by
  intro code body h w
  by_cases e : x0 = 0x00 ∨ x0 = 0x01
  · rw [Instr.asRequest, if_pos e] at h
    cases h
  · rw [Instr.asRequest, if_neg e, Option.some.injEq, Prod.mk.injEq] at h
    obtain ⟨rfl, rfl⟩ := h
    exact ⟨fun _ => rfl, fun _ => lengths_of_unknown _ (by simpa [Instr.wellFormed] using w)⟩

end Sys2Proof.Laws.CatalogueCode
end

