-- ==== Sys2Proof/Laws/State.lean ====
section
/-! SUPPORT. One lemma per field of the state for each update of one record or one unit. -/

namespace Sys2Proof.Machine

variable (s : State)

@[simp] theorem State.onPath_cmp (i : PathSlot) (f : Path → Path) : (s.onPath i f).cmp = s.cmp := rfl
@[simp] theorem State.onPath_settings (i : PathSlot) (f : Path → Path) : (s.onPath i f).settings = s.settings := rfl
@[simp] theorem State.onPath_paths (i : PathSlot) (f : Path → Path) : (s.onPath i f).paths = s.paths.modify i f := rfl
@[simp] theorem State.onPath_su (i : PathSlot) (f : Path → Path) : (s.onPath i f).su = s.su := rfl
@[simp] theorem State.onPath_lines (i : PathSlot) (f : Path → Path) : (s.onPath i f).lines = s.lines := rfl
@[simp] theorem State.onPath_freeCells (i : PathSlot) (f : Path → Path) : (s.onPath i f).freeCells = s.freeCells := rfl
@[simp] theorem State.onPath_feeds (i : PathSlot) (f : Path → Path) : (s.onPath i f).feeds = s.feeds := rfl
@[simp] theorem State.onPath_classMap (i : PathSlot) (f : Path → Path) : (s.onPath i f).classMap = s.classMap := rfl
@[simp] theorem State.onPath_scanCursor (i : PathSlot) (f : Path → Path) : (s.onPath i f).scanCursor = s.scanCursor := rfl
@[simp] theorem State.onPath_ports (i : PathSlot) (f : Path → Path) : (s.onPath i f).ports = s.ports := rfl
@[simp] theorem State.onPath_lineArrival (i : PathSlot) (f : Path → Path) : (s.onPath i f).lineArrival = s.lineArrival := rfl
@[simp] theorem State.onPath_portArrival (i : PathSlot) (f : Path → Path) : (s.onPath i f).portArrival = s.portArrival := rfl
@[simp] theorem State.onPath_tb (i : PathSlot) (f : Path → Path) : (s.onPath i f).tb = s.tb := rfl
@[simp] theorem State.onPath_nu (i : PathSlot) (f : Path → Path) : (s.onPath i f).nu = s.nu := rfl
@[simp] theorem State.onPath_window (i : PathSlot) (f : Path → Path) : (s.onPath i f).window = s.window := rfl
@[simp] theorem State.onPath_presentPin (i : PathSlot) (f : Path → Path) : (s.onPath i f).presentPin = s.presentPin := rfl
@[simp] theorem State.onPath_lockPin (i : PathSlot) (f : Path → Path) : (s.onPath i f).lockPin = s.lockPin := rfl
@[simp] theorem State.onPath_clock (i : PathSlot) (f : Path → Path) : (s.onPath i f).clock = s.clock := rfl
@[simp] theorem State.onPath_nextMs (i : PathSlot) (f : Path → Path) : (s.onPath i f).nextMs = s.nextMs := rfl
@[simp] theorem State.onPath_pending (i : PathSlot) (f : Path → Path) : (s.onPath i f).pending = s.pending := rfl

@[simp] theorem State.onLine_cmp (l : Line) (f : LinePort → LinePort) : (s.onLine l f).cmp = s.cmp := rfl
@[simp] theorem State.onLine_settings (l : Line) (f : LinePort → LinePort) : (s.onLine l f).settings = s.settings := rfl
@[simp] theorem State.onLine_paths (l : Line) (f : LinePort → LinePort) : (s.onLine l f).paths = s.paths := rfl
@[simp] theorem State.onLine_su (l : Line) (f : LinePort → LinePort) : (s.onLine l f).su = s.su := rfl
@[simp] theorem State.onLine_lines (l : Line) (f : LinePort → LinePort) : (s.onLine l f).lines = s.lines.modify l f := rfl
@[simp] theorem State.onLine_freeCells (l : Line) (f : LinePort → LinePort) : (s.onLine l f).freeCells = s.freeCells := rfl
@[simp] theorem State.onLine_feeds (l : Line) (f : LinePort → LinePort) : (s.onLine l f).feeds = s.feeds := rfl
@[simp] theorem State.onLine_classMap (l : Line) (f : LinePort → LinePort) : (s.onLine l f).classMap = s.classMap := rfl
@[simp] theorem State.onLine_scanCursor (l : Line) (f : LinePort → LinePort) : (s.onLine l f).scanCursor = s.scanCursor := rfl
@[simp] theorem State.onLine_ports (l : Line) (f : LinePort → LinePort) : (s.onLine l f).ports = s.ports := rfl
@[simp] theorem State.onLine_lineArrival (l : Line) (f : LinePort → LinePort) : (s.onLine l f).lineArrival = s.lineArrival := rfl
@[simp] theorem State.onLine_portArrival (l : Line) (f : LinePort → LinePort) : (s.onLine l f).portArrival = s.portArrival := rfl
@[simp] theorem State.onLine_tb (l : Line) (f : LinePort → LinePort) : (s.onLine l f).tb = s.tb := rfl
@[simp] theorem State.onLine_nu (l : Line) (f : LinePort → LinePort) : (s.onLine l f).nu = s.nu := rfl
@[simp] theorem State.onLine_window (l : Line) (f : LinePort → LinePort) : (s.onLine l f).window = s.window := rfl
@[simp] theorem State.onLine_presentPin (l : Line) (f : LinePort → LinePort) : (s.onLine l f).presentPin = s.presentPin := rfl
@[simp] theorem State.onLine_lockPin (l : Line) (f : LinePort → LinePort) : (s.onLine l f).lockPin = s.lockPin := rfl
@[simp] theorem State.onLine_clock (l : Line) (f : LinePort → LinePort) : (s.onLine l f).clock = s.clock := rfl
@[simp] theorem State.onLine_nextMs (l : Line) (f : LinePort → LinePort) : (s.onLine l f).nextMs = s.nextMs := rfl
@[simp] theorem State.onLine_pending (l : Line) (f : LinePort → LinePort) : (s.onLine l f).pending = s.pending := rfl

@[simp] theorem State.onFeed_cmp (i : FeedSlot) (f : Feed → Feed) : (s.onFeed i f).cmp = s.cmp := rfl
@[simp] theorem State.onFeed_settings (i : FeedSlot) (f : Feed → Feed) : (s.onFeed i f).settings = s.settings := rfl
@[simp] theorem State.onFeed_paths (i : FeedSlot) (f : Feed → Feed) : (s.onFeed i f).paths = s.paths := rfl
@[simp] theorem State.onFeed_su (i : FeedSlot) (f : Feed → Feed) : (s.onFeed i f).su = s.su := rfl
@[simp] theorem State.onFeed_lines (i : FeedSlot) (f : Feed → Feed) : (s.onFeed i f).lines = s.lines := rfl
@[simp] theorem State.onFeed_freeCells (i : FeedSlot) (f : Feed → Feed) : (s.onFeed i f).freeCells = s.freeCells := rfl
@[simp] theorem State.onFeed_feeds (i : FeedSlot) (f : Feed → Feed) : (s.onFeed i f).feeds = s.feeds.modify i f := rfl
@[simp] theorem State.onFeed_classMap (i : FeedSlot) (f : Feed → Feed) : (s.onFeed i f).classMap = s.classMap := rfl
@[simp] theorem State.onFeed_scanCursor (i : FeedSlot) (f : Feed → Feed) : (s.onFeed i f).scanCursor = s.scanCursor := rfl
@[simp] theorem State.onFeed_ports (i : FeedSlot) (f : Feed → Feed) : (s.onFeed i f).ports = s.ports := rfl
@[simp] theorem State.onFeed_lineArrival (i : FeedSlot) (f : Feed → Feed) : (s.onFeed i f).lineArrival = s.lineArrival := rfl
@[simp] theorem State.onFeed_portArrival (i : FeedSlot) (f : Feed → Feed) : (s.onFeed i f).portArrival = s.portArrival := rfl
@[simp] theorem State.onFeed_tb (i : FeedSlot) (f : Feed → Feed) : (s.onFeed i f).tb = s.tb := rfl
@[simp] theorem State.onFeed_nu (i : FeedSlot) (f : Feed → Feed) : (s.onFeed i f).nu = s.nu := rfl
@[simp] theorem State.onFeed_window (i : FeedSlot) (f : Feed → Feed) : (s.onFeed i f).window = s.window := rfl
@[simp] theorem State.onFeed_presentPin (i : FeedSlot) (f : Feed → Feed) : (s.onFeed i f).presentPin = s.presentPin := rfl
@[simp] theorem State.onFeed_lockPin (i : FeedSlot) (f : Feed → Feed) : (s.onFeed i f).lockPin = s.lockPin := rfl
@[simp] theorem State.onFeed_clock (i : FeedSlot) (f : Feed → Feed) : (s.onFeed i f).clock = s.clock := rfl
@[simp] theorem State.onFeed_nextMs (i : FeedSlot) (f : Feed → Feed) : (s.onFeed i f).nextMs = s.nextMs := rfl
@[simp] theorem State.onFeed_pending (i : FeedSlot) (f : Feed → Feed) : (s.onFeed i f).pending = s.pending := rfl

@[simp] theorem State.onPort_cmp (p : Port) (f : LocalPort → LocalPort) : (s.onPort p f).cmp = s.cmp := rfl
@[simp] theorem State.onPort_settings (p : Port) (f : LocalPort → LocalPort) : (s.onPort p f).settings = s.settings := rfl
@[simp] theorem State.onPort_paths (p : Port) (f : LocalPort → LocalPort) : (s.onPort p f).paths = s.paths := rfl
@[simp] theorem State.onPort_su (p : Port) (f : LocalPort → LocalPort) : (s.onPort p f).su = s.su := rfl
@[simp] theorem State.onPort_lines (p : Port) (f : LocalPort → LocalPort) : (s.onPort p f).lines = s.lines := rfl
@[simp] theorem State.onPort_freeCells (p : Port) (f : LocalPort → LocalPort) : (s.onPort p f).freeCells = s.freeCells := rfl
@[simp] theorem State.onPort_feeds (p : Port) (f : LocalPort → LocalPort) : (s.onPort p f).feeds = s.feeds := rfl
@[simp] theorem State.onPort_classMap (p : Port) (f : LocalPort → LocalPort) : (s.onPort p f).classMap = s.classMap := rfl
@[simp] theorem State.onPort_scanCursor (p : Port) (f : LocalPort → LocalPort) : (s.onPort p f).scanCursor = s.scanCursor := rfl
@[simp] theorem State.onPort_ports (p : Port) (f : LocalPort → LocalPort) : (s.onPort p f).ports = s.ports.modify p f := rfl
@[simp] theorem State.onPort_lineArrival (p : Port) (f : LocalPort → LocalPort) : (s.onPort p f).lineArrival = s.lineArrival := rfl
@[simp] theorem State.onPort_portArrival (p : Port) (f : LocalPort → LocalPort) : (s.onPort p f).portArrival = s.portArrival := rfl
@[simp] theorem State.onPort_tb (p : Port) (f : LocalPort → LocalPort) : (s.onPort p f).tb = s.tb := rfl
@[simp] theorem State.onPort_nu (p : Port) (f : LocalPort → LocalPort) : (s.onPort p f).nu = s.nu := rfl
@[simp] theorem State.onPort_window (p : Port) (f : LocalPort → LocalPort) : (s.onPort p f).window = s.window := rfl
@[simp] theorem State.onPort_presentPin (p : Port) (f : LocalPort → LocalPort) : (s.onPort p f).presentPin = s.presentPin := rfl
@[simp] theorem State.onPort_lockPin (p : Port) (f : LocalPort → LocalPort) : (s.onPort p f).lockPin = s.lockPin := rfl
@[simp] theorem State.onPort_clock (p : Port) (f : LocalPort → LocalPort) : (s.onPort p f).clock = s.clock := rfl
@[simp] theorem State.onPort_nextMs (p : Port) (f : LocalPort → LocalPort) : (s.onPort p f).nextMs = s.nextMs := rfl
@[simp] theorem State.onPort_pending (p : Port) (f : LocalPort → LocalPort) : (s.onPort p f).pending = s.pending := rfl

@[simp] theorem State.onCmp_cmp (f : CommandPort → CommandPort) : (s.onCmp f).cmp = f s.cmp := rfl
@[simp] theorem State.onCmp_settings (f : CommandPort → CommandPort) : (s.onCmp f).settings = s.settings := rfl
@[simp] theorem State.onCmp_paths (f : CommandPort → CommandPort) : (s.onCmp f).paths = s.paths := rfl
@[simp] theorem State.onCmp_su (f : CommandPort → CommandPort) : (s.onCmp f).su = s.su := rfl
@[simp] theorem State.onCmp_lines (f : CommandPort → CommandPort) : (s.onCmp f).lines = s.lines := rfl
@[simp] theorem State.onCmp_freeCells (f : CommandPort → CommandPort) : (s.onCmp f).freeCells = s.freeCells := rfl
@[simp] theorem State.onCmp_feeds (f : CommandPort → CommandPort) : (s.onCmp f).feeds = s.feeds := rfl
@[simp] theorem State.onCmp_classMap (f : CommandPort → CommandPort) : (s.onCmp f).classMap = s.classMap := rfl
@[simp] theorem State.onCmp_scanCursor (f : CommandPort → CommandPort) : (s.onCmp f).scanCursor = s.scanCursor := rfl
@[simp] theorem State.onCmp_ports (f : CommandPort → CommandPort) : (s.onCmp f).ports = s.ports := rfl
@[simp] theorem State.onCmp_lineArrival (f : CommandPort → CommandPort) : (s.onCmp f).lineArrival = s.lineArrival := rfl
@[simp] theorem State.onCmp_portArrival (f : CommandPort → CommandPort) : (s.onCmp f).portArrival = s.portArrival := rfl
@[simp] theorem State.onCmp_tb (f : CommandPort → CommandPort) : (s.onCmp f).tb = s.tb := rfl
@[simp] theorem State.onCmp_nu (f : CommandPort → CommandPort) : (s.onCmp f).nu = s.nu := rfl
@[simp] theorem State.onCmp_window (f : CommandPort → CommandPort) : (s.onCmp f).window = s.window := rfl
@[simp] theorem State.onCmp_presentPin (f : CommandPort → CommandPort) : (s.onCmp f).presentPin = s.presentPin := rfl
@[simp] theorem State.onCmp_lockPin (f : CommandPort → CommandPort) : (s.onCmp f).lockPin = s.lockPin := rfl
@[simp] theorem State.onCmp_clock (f : CommandPort → CommandPort) : (s.onCmp f).clock = s.clock := rfl
@[simp] theorem State.onCmp_nextMs (f : CommandPort → CommandPort) : (s.onCmp f).nextMs = s.nextMs := rfl
@[simp] theorem State.onCmp_pending (f : CommandPort → CommandPort) : (s.onCmp f).pending = s.pending := rfl

@[simp] theorem State.onSu_cmp (f : SoundingUnit → SoundingUnit) : (s.onSu f).cmp = s.cmp := rfl
@[simp] theorem State.onSu_settings (f : SoundingUnit → SoundingUnit) : (s.onSu f).settings = s.settings := rfl
@[simp] theorem State.onSu_paths (f : SoundingUnit → SoundingUnit) : (s.onSu f).paths = s.paths := rfl
@[simp] theorem State.onSu_su (f : SoundingUnit → SoundingUnit) : (s.onSu f).su = f s.su := rfl
@[simp] theorem State.onSu_lines (f : SoundingUnit → SoundingUnit) : (s.onSu f).lines = s.lines := rfl
@[simp] theorem State.onSu_freeCells (f : SoundingUnit → SoundingUnit) : (s.onSu f).freeCells = s.freeCells := rfl
@[simp] theorem State.onSu_feeds (f : SoundingUnit → SoundingUnit) : (s.onSu f).feeds = s.feeds := rfl
@[simp] theorem State.onSu_classMap (f : SoundingUnit → SoundingUnit) : (s.onSu f).classMap = s.classMap := rfl
@[simp] theorem State.onSu_scanCursor (f : SoundingUnit → SoundingUnit) : (s.onSu f).scanCursor = s.scanCursor := rfl
@[simp] theorem State.onSu_ports (f : SoundingUnit → SoundingUnit) : (s.onSu f).ports = s.ports := rfl
@[simp] theorem State.onSu_lineArrival (f : SoundingUnit → SoundingUnit) : (s.onSu f).lineArrival = s.lineArrival := rfl
@[simp] theorem State.onSu_portArrival (f : SoundingUnit → SoundingUnit) : (s.onSu f).portArrival = s.portArrival := rfl
@[simp] theorem State.onSu_tb (f : SoundingUnit → SoundingUnit) : (s.onSu f).tb = s.tb := rfl
@[simp] theorem State.onSu_nu (f : SoundingUnit → SoundingUnit) : (s.onSu f).nu = s.nu := rfl
@[simp] theorem State.onSu_window (f : SoundingUnit → SoundingUnit) : (s.onSu f).window = s.window := rfl
@[simp] theorem State.onSu_presentPin (f : SoundingUnit → SoundingUnit) : (s.onSu f).presentPin = s.presentPin := rfl
@[simp] theorem State.onSu_lockPin (f : SoundingUnit → SoundingUnit) : (s.onSu f).lockPin = s.lockPin := rfl
@[simp] theorem State.onSu_clock (f : SoundingUnit → SoundingUnit) : (s.onSu f).clock = s.clock := rfl
@[simp] theorem State.onSu_nextMs (f : SoundingUnit → SoundingUnit) : (s.onSu f).nextMs = s.nextMs := rfl
@[simp] theorem State.onSu_pending (f : SoundingUnit → SoundingUnit) : (s.onSu f).pending = s.pending := rfl

@[simp] theorem State.onTb_cmp (f : TimeBase → TimeBase) : (s.onTb f).cmp = s.cmp := rfl
@[simp] theorem State.onTb_settings (f : TimeBase → TimeBase) : (s.onTb f).settings = s.settings := rfl
@[simp] theorem State.onTb_paths (f : TimeBase → TimeBase) : (s.onTb f).paths = s.paths := rfl
@[simp] theorem State.onTb_su (f : TimeBase → TimeBase) : (s.onTb f).su = s.su := rfl
@[simp] theorem State.onTb_lines (f : TimeBase → TimeBase) : (s.onTb f).lines = s.lines := rfl
@[simp] theorem State.onTb_freeCells (f : TimeBase → TimeBase) : (s.onTb f).freeCells = s.freeCells := rfl
@[simp] theorem State.onTb_feeds (f : TimeBase → TimeBase) : (s.onTb f).feeds = s.feeds := rfl
@[simp] theorem State.onTb_classMap (f : TimeBase → TimeBase) : (s.onTb f).classMap = s.classMap := rfl
@[simp] theorem State.onTb_scanCursor (f : TimeBase → TimeBase) : (s.onTb f).scanCursor = s.scanCursor := rfl
@[simp] theorem State.onTb_ports (f : TimeBase → TimeBase) : (s.onTb f).ports = s.ports := rfl
@[simp] theorem State.onTb_lineArrival (f : TimeBase → TimeBase) : (s.onTb f).lineArrival = s.lineArrival := rfl
@[simp] theorem State.onTb_portArrival (f : TimeBase → TimeBase) : (s.onTb f).portArrival = s.portArrival := rfl
@[simp] theorem State.onTb_tb (f : TimeBase → TimeBase) : (s.onTb f).tb = f s.tb := rfl
@[simp] theorem State.onTb_nu (f : TimeBase → TimeBase) : (s.onTb f).nu = s.nu := rfl
@[simp] theorem State.onTb_window (f : TimeBase → TimeBase) : (s.onTb f).window = s.window := rfl
@[simp] theorem State.onTb_presentPin (f : TimeBase → TimeBase) : (s.onTb f).presentPin = s.presentPin := rfl
@[simp] theorem State.onTb_lockPin (f : TimeBase → TimeBase) : (s.onTb f).lockPin = s.lockPin := rfl
@[simp] theorem State.onTb_clock (f : TimeBase → TimeBase) : (s.onTb f).clock = s.clock := rfl
@[simp] theorem State.onTb_nextMs (f : TimeBase → TimeBase) : (s.onTb f).nextMs = s.nextMs := rfl
@[simp] theorem State.onTb_pending (f : TimeBase → TimeBase) : (s.onTb f).pending = s.pending := rfl

@[simp] theorem State.onNu_cmp (f : NoticeUnit → NoticeUnit) : (s.onNu f).cmp = s.cmp := rfl
@[simp] theorem State.onNu_settings (f : NoticeUnit → NoticeUnit) : (s.onNu f).settings = s.settings := rfl
@[simp] theorem State.onNu_paths (f : NoticeUnit → NoticeUnit) : (s.onNu f).paths = s.paths := rfl
@[simp] theorem State.onNu_su (f : NoticeUnit → NoticeUnit) : (s.onNu f).su = s.su := rfl
@[simp] theorem State.onNu_lines (f : NoticeUnit → NoticeUnit) : (s.onNu f).lines = s.lines := rfl
@[simp] theorem State.onNu_freeCells (f : NoticeUnit → NoticeUnit) : (s.onNu f).freeCells = s.freeCells := rfl
@[simp] theorem State.onNu_feeds (f : NoticeUnit → NoticeUnit) : (s.onNu f).feeds = s.feeds := rfl
@[simp] theorem State.onNu_classMap (f : NoticeUnit → NoticeUnit) : (s.onNu f).classMap = s.classMap := rfl
@[simp] theorem State.onNu_scanCursor (f : NoticeUnit → NoticeUnit) : (s.onNu f).scanCursor = s.scanCursor := rfl
@[simp] theorem State.onNu_ports (f : NoticeUnit → NoticeUnit) : (s.onNu f).ports = s.ports := rfl
@[simp] theorem State.onNu_lineArrival (f : NoticeUnit → NoticeUnit) : (s.onNu f).lineArrival = s.lineArrival := rfl
@[simp] theorem State.onNu_portArrival (f : NoticeUnit → NoticeUnit) : (s.onNu f).portArrival = s.portArrival := rfl
@[simp] theorem State.onNu_tb (f : NoticeUnit → NoticeUnit) : (s.onNu f).tb = s.tb := rfl
@[simp] theorem State.onNu_nu (f : NoticeUnit → NoticeUnit) : (s.onNu f).nu = f s.nu := rfl
@[simp] theorem State.onNu_window (f : NoticeUnit → NoticeUnit) : (s.onNu f).window = s.window := rfl
@[simp] theorem State.onNu_presentPin (f : NoticeUnit → NoticeUnit) : (s.onNu f).presentPin = s.presentPin := rfl
@[simp] theorem State.onNu_lockPin (f : NoticeUnit → NoticeUnit) : (s.onNu f).lockPin = s.lockPin := rfl
@[simp] theorem State.onNu_clock (f : NoticeUnit → NoticeUnit) : (s.onNu f).clock = s.clock := rfl
@[simp] theorem State.onNu_nextMs (f : NoticeUnit → NoticeUnit) : (s.onNu f).nextMs = s.nextMs := rfl
@[simp] theorem State.onNu_pending (f : NoticeUnit → NoticeUnit) : (s.onNu f).pending = s.pending := rfl

@[simp] theorem State.countLine_cmp (l : Line) (f : LineCounters → LineCounters) : (s.countLine l f).cmp = s.cmp := rfl
@[simp] theorem State.countLine_settings (l : Line) (f : LineCounters → LineCounters) : (s.countLine l f).settings = s.settings := rfl
@[simp] theorem State.countLine_paths (l : Line) (f : LineCounters → LineCounters) : (s.countLine l f).paths = s.paths := rfl
@[simp] theorem State.countLine_su (l : Line) (f : LineCounters → LineCounters) : (s.countLine l f).su = s.su := rfl
@[simp] theorem State.countLine_lines (l : Line) (f : LineCounters → LineCounters) : (s.countLine l f).lines = s.lines.modify l fun p => { p with counters := f p.counters } := rfl
@[simp] theorem State.countLine_freeCells (l : Line) (f : LineCounters → LineCounters) : (s.countLine l f).freeCells = s.freeCells := rfl
@[simp] theorem State.countLine_feeds (l : Line) (f : LineCounters → LineCounters) : (s.countLine l f).feeds = s.feeds := rfl
@[simp] theorem State.countLine_classMap (l : Line) (f : LineCounters → LineCounters) : (s.countLine l f).classMap = s.classMap := rfl
@[simp] theorem State.countLine_scanCursor (l : Line) (f : LineCounters → LineCounters) : (s.countLine l f).scanCursor = s.scanCursor := rfl
@[simp] theorem State.countLine_ports (l : Line) (f : LineCounters → LineCounters) : (s.countLine l f).ports = s.ports := rfl
@[simp] theorem State.countLine_lineArrival (l : Line) (f : LineCounters → LineCounters) : (s.countLine l f).lineArrival = s.lineArrival := rfl
@[simp] theorem State.countLine_portArrival (l : Line) (f : LineCounters → LineCounters) : (s.countLine l f).portArrival = s.portArrival := rfl
@[simp] theorem State.countLine_tb (l : Line) (f : LineCounters → LineCounters) : (s.countLine l f).tb = s.tb := rfl
@[simp] theorem State.countLine_nu (l : Line) (f : LineCounters → LineCounters) : (s.countLine l f).nu = s.nu := rfl
@[simp] theorem State.countLine_window (l : Line) (f : LineCounters → LineCounters) : (s.countLine l f).window = s.window := rfl
@[simp] theorem State.countLine_presentPin (l : Line) (f : LineCounters → LineCounters) : (s.countLine l f).presentPin = s.presentPin := rfl
@[simp] theorem State.countLine_lockPin (l : Line) (f : LineCounters → LineCounters) : (s.countLine l f).lockPin = s.lockPin := rfl
@[simp] theorem State.countLine_clock (l : Line) (f : LineCounters → LineCounters) : (s.countLine l f).clock = s.clock := rfl
@[simp] theorem State.countLine_nextMs (l : Line) (f : LineCounters → LineCounters) : (s.countLine l f).nextMs = s.nextMs := rfl
@[simp] theorem State.countLine_pending (l : Line) (f : LineCounters → LineCounters) : (s.countLine l f).pending = s.pending := rfl

@[simp] theorem State.countPath_cmp (i : PathSlot) (f : PathCounters → PathCounters) : (s.countPath i f).cmp = s.cmp := rfl
@[simp] theorem State.countPath_settings (i : PathSlot) (f : PathCounters → PathCounters) : (s.countPath i f).settings = s.settings := rfl
@[simp] theorem State.countPath_paths (i : PathSlot) (f : PathCounters → PathCounters) : (s.countPath i f).paths = s.paths.modify i fun p => { p with counters := f p.counters } := rfl
@[simp] theorem State.countPath_su (i : PathSlot) (f : PathCounters → PathCounters) : (s.countPath i f).su = s.su := rfl
@[simp] theorem State.countPath_lines (i : PathSlot) (f : PathCounters → PathCounters) : (s.countPath i f).lines = s.lines := rfl
@[simp] theorem State.countPath_freeCells (i : PathSlot) (f : PathCounters → PathCounters) : (s.countPath i f).freeCells = s.freeCells := rfl
@[simp] theorem State.countPath_feeds (i : PathSlot) (f : PathCounters → PathCounters) : (s.countPath i f).feeds = s.feeds := rfl
@[simp] theorem State.countPath_classMap (i : PathSlot) (f : PathCounters → PathCounters) : (s.countPath i f).classMap = s.classMap := rfl
@[simp] theorem State.countPath_scanCursor (i : PathSlot) (f : PathCounters → PathCounters) : (s.countPath i f).scanCursor = s.scanCursor := rfl
@[simp] theorem State.countPath_ports (i : PathSlot) (f : PathCounters → PathCounters) : (s.countPath i f).ports = s.ports := rfl
@[simp] theorem State.countPath_lineArrival (i : PathSlot) (f : PathCounters → PathCounters) : (s.countPath i f).lineArrival = s.lineArrival := rfl
@[simp] theorem State.countPath_portArrival (i : PathSlot) (f : PathCounters → PathCounters) : (s.countPath i f).portArrival = s.portArrival := rfl
@[simp] theorem State.countPath_tb (i : PathSlot) (f : PathCounters → PathCounters) : (s.countPath i f).tb = s.tb := rfl
@[simp] theorem State.countPath_nu (i : PathSlot) (f : PathCounters → PathCounters) : (s.countPath i f).nu = s.nu := rfl
@[simp] theorem State.countPath_window (i : PathSlot) (f : PathCounters → PathCounters) : (s.countPath i f).window = s.window := rfl
@[simp] theorem State.countPath_presentPin (i : PathSlot) (f : PathCounters → PathCounters) : (s.countPath i f).presentPin = s.presentPin := rfl
@[simp] theorem State.countPath_lockPin (i : PathSlot) (f : PathCounters → PathCounters) : (s.countPath i f).lockPin = s.lockPin := rfl
@[simp] theorem State.countPath_clock (i : PathSlot) (f : PathCounters → PathCounters) : (s.countPath i f).clock = s.clock := rfl
@[simp] theorem State.countPath_nextMs (i : PathSlot) (f : PathCounters → PathCounters) : (s.countPath i f).nextMs = s.nextMs := rfl
@[simp] theorem State.countPath_pending (i : PathSlot) (f : PathCounters → PathCounters) : (s.countPath i f).pending = s.pending := rfl

@[simp] theorem State.countPort_cmp (p : Port) (f : PortCounters → PortCounters) : (s.countPort p f).cmp = s.cmp := rfl
@[simp] theorem State.countPort_settings (p : Port) (f : PortCounters → PortCounters) : (s.countPort p f).settings = s.settings := rfl
@[simp] theorem State.countPort_paths (p : Port) (f : PortCounters → PortCounters) : (s.countPort p f).paths = s.paths := rfl
@[simp] theorem State.countPort_su (p : Port) (f : PortCounters → PortCounters) : (s.countPort p f).su = s.su := rfl
@[simp] theorem State.countPort_lines (p : Port) (f : PortCounters → PortCounters) : (s.countPort p f).lines = s.lines := rfl
@[simp] theorem State.countPort_freeCells (p : Port) (f : PortCounters → PortCounters) : (s.countPort p f).freeCells = s.freeCells := rfl
@[simp] theorem State.countPort_feeds (p : Port) (f : PortCounters → PortCounters) : (s.countPort p f).feeds = s.feeds := rfl
@[simp] theorem State.countPort_classMap (p : Port) (f : PortCounters → PortCounters) : (s.countPort p f).classMap = s.classMap := rfl
@[simp] theorem State.countPort_scanCursor (p : Port) (f : PortCounters → PortCounters) : (s.countPort p f).scanCursor = s.scanCursor := rfl
@[simp] theorem State.countPort_ports (p : Port) (f : PortCounters → PortCounters) : (s.countPort p f).ports = s.ports.modify p fun q => { q with counters := f q.counters } := rfl
@[simp] theorem State.countPort_lineArrival (p : Port) (f : PortCounters → PortCounters) : (s.countPort p f).lineArrival = s.lineArrival := rfl
@[simp] theorem State.countPort_portArrival (p : Port) (f : PortCounters → PortCounters) : (s.countPort p f).portArrival = s.portArrival := rfl
@[simp] theorem State.countPort_tb (p : Port) (f : PortCounters → PortCounters) : (s.countPort p f).tb = s.tb := rfl
@[simp] theorem State.countPort_nu (p : Port) (f : PortCounters → PortCounters) : (s.countPort p f).nu = s.nu := rfl
@[simp] theorem State.countPort_window (p : Port) (f : PortCounters → PortCounters) : (s.countPort p f).window = s.window := rfl
@[simp] theorem State.countPort_presentPin (p : Port) (f : PortCounters → PortCounters) : (s.countPort p f).presentPin = s.presentPin := rfl
@[simp] theorem State.countPort_lockPin (p : Port) (f : PortCounters → PortCounters) : (s.countPort p f).lockPin = s.lockPin := rfl
@[simp] theorem State.countPort_clock (p : Port) (f : PortCounters → PortCounters) : (s.countPort p f).clock = s.clock := rfl
@[simp] theorem State.countPort_nextMs (p : Port) (f : PortCounters → PortCounters) : (s.countPort p f).nextMs = s.nextMs := rfl
@[simp] theorem State.countPort_pending (p : Port) (f : PortCounters → PortCounters) : (s.countPort p f).pending = s.pending := rfl

@[simp] theorem State.onOut_cmp (i : FeedSlot) (f : OutFields → OutFields) : (s.onOut i f).cmp = s.cmp := rfl
@[simp] theorem State.onOut_settings (i : FeedSlot) (f : OutFields → OutFields) : (s.onOut i f).settings = s.settings := rfl
@[simp] theorem State.onOut_paths (i : FeedSlot) (f : OutFields → OutFields) : (s.onOut i f).paths = s.paths := rfl
@[simp] theorem State.onOut_su (i : FeedSlot) (f : OutFields → OutFields) : (s.onOut i f).su = s.su := rfl
@[simp] theorem State.onOut_lines (i : FeedSlot) (f : OutFields → OutFields) : (s.onOut i f).lines = s.lines := rfl
@[simp] theorem State.onOut_freeCells (i : FeedSlot) (f : OutFields → OutFields) : (s.onOut i f).freeCells = s.freeCells := rfl
@[simp] theorem State.onOut_feeds (i : FeedSlot) (f : OutFields → OutFields) : (s.onOut i f).feeds = s.feeds.modify i fun x => { x with out := f x.out } := rfl
@[simp] theorem State.onOut_classMap (i : FeedSlot) (f : OutFields → OutFields) : (s.onOut i f).classMap = s.classMap := rfl
@[simp] theorem State.onOut_scanCursor (i : FeedSlot) (f : OutFields → OutFields) : (s.onOut i f).scanCursor = s.scanCursor := rfl
@[simp] theorem State.onOut_ports (i : FeedSlot) (f : OutFields → OutFields) : (s.onOut i f).ports = s.ports := rfl
@[simp] theorem State.onOut_lineArrival (i : FeedSlot) (f : OutFields → OutFields) : (s.onOut i f).lineArrival = s.lineArrival := rfl
@[simp] theorem State.onOut_portArrival (i : FeedSlot) (f : OutFields → OutFields) : (s.onOut i f).portArrival = s.portArrival := rfl
@[simp] theorem State.onOut_tb (i : FeedSlot) (f : OutFields → OutFields) : (s.onOut i f).tb = s.tb := rfl
@[simp] theorem State.onOut_nu (i : FeedSlot) (f : OutFields → OutFields) : (s.onOut i f).nu = s.nu := rfl
@[simp] theorem State.onOut_window (i : FeedSlot) (f : OutFields → OutFields) : (s.onOut i f).window = s.window := rfl
@[simp] theorem State.onOut_presentPin (i : FeedSlot) (f : OutFields → OutFields) : (s.onOut i f).presentPin = s.presentPin := rfl
@[simp] theorem State.onOut_lockPin (i : FeedSlot) (f : OutFields → OutFields) : (s.onOut i f).lockPin = s.lockPin := rfl
@[simp] theorem State.onOut_clock (i : FeedSlot) (f : OutFields → OutFields) : (s.onOut i f).clock = s.clock := rfl
@[simp] theorem State.onOut_nextMs (i : FeedSlot) (f : OutFields → OutFields) : (s.onOut i f).nextMs = s.nextMs := rfl
@[simp] theorem State.onOut_pending (i : FeedSlot) (f : OutFields → OutFields) : (s.onOut i f).pending = s.pending := rfl

@[simp] theorem State.onInb_cmp (i : FeedSlot) (f : InFields → InFields) : (s.onInb i f).cmp = s.cmp := rfl
@[simp] theorem State.onInb_settings (i : FeedSlot) (f : InFields → InFields) : (s.onInb i f).settings = s.settings := rfl
@[simp] theorem State.onInb_paths (i : FeedSlot) (f : InFields → InFields) : (s.onInb i f).paths = s.paths := rfl
@[simp] theorem State.onInb_su (i : FeedSlot) (f : InFields → InFields) : (s.onInb i f).su = s.su := rfl
@[simp] theorem State.onInb_lines (i : FeedSlot) (f : InFields → InFields) : (s.onInb i f).lines = s.lines := rfl
@[simp] theorem State.onInb_freeCells (i : FeedSlot) (f : InFields → InFields) : (s.onInb i f).freeCells = s.freeCells := rfl
@[simp] theorem State.onInb_feeds (i : FeedSlot) (f : InFields → InFields) : (s.onInb i f).feeds = s.feeds.modify i fun x => { x with inb := f x.inb } := rfl
@[simp] theorem State.onInb_classMap (i : FeedSlot) (f : InFields → InFields) : (s.onInb i f).classMap = s.classMap := rfl
@[simp] theorem State.onInb_scanCursor (i : FeedSlot) (f : InFields → InFields) : (s.onInb i f).scanCursor = s.scanCursor := rfl
@[simp] theorem State.onInb_ports (i : FeedSlot) (f : InFields → InFields) : (s.onInb i f).ports = s.ports := rfl
@[simp] theorem State.onInb_lineArrival (i : FeedSlot) (f : InFields → InFields) : (s.onInb i f).lineArrival = s.lineArrival := rfl
@[simp] theorem State.onInb_portArrival (i : FeedSlot) (f : InFields → InFields) : (s.onInb i f).portArrival = s.portArrival := rfl
@[simp] theorem State.onInb_tb (i : FeedSlot) (f : InFields → InFields) : (s.onInb i f).tb = s.tb := rfl
@[simp] theorem State.onInb_nu (i : FeedSlot) (f : InFields → InFields) : (s.onInb i f).nu = s.nu := rfl
@[simp] theorem State.onInb_window (i : FeedSlot) (f : InFields → InFields) : (s.onInb i f).window = s.window := rfl
@[simp] theorem State.onInb_presentPin (i : FeedSlot) (f : InFields → InFields) : (s.onInb i f).presentPin = s.presentPin := rfl
@[simp] theorem State.onInb_lockPin (i : FeedSlot) (f : InFields → InFields) : (s.onInb i f).lockPin = s.lockPin := rfl
@[simp] theorem State.onInb_clock (i : FeedSlot) (f : InFields → InFields) : (s.onInb i f).clock = s.clock := rfl
@[simp] theorem State.onInb_nextMs (i : FeedSlot) (f : InFields → InFields) : (s.onInb i f).nextMs = s.nextMs := rfl
@[simp] theorem State.onInb_pending (i : FeedSlot) (f : InFields → InFields) : (s.onInb i f).pending = s.pending := rfl

@[simp] theorem State.countOut_cmp (i : FeedSlot) (f : OutCounters → OutCounters) : (s.countOut i f).cmp = s.cmp := rfl
@[simp] theorem State.countOut_settings (i : FeedSlot) (f : OutCounters → OutCounters) : (s.countOut i f).settings = s.settings := rfl
@[simp] theorem State.countOut_paths (i : FeedSlot) (f : OutCounters → OutCounters) : (s.countOut i f).paths = s.paths := rfl
@[simp] theorem State.countOut_su (i : FeedSlot) (f : OutCounters → OutCounters) : (s.countOut i f).su = s.su := rfl
@[simp] theorem State.countOut_lines (i : FeedSlot) (f : OutCounters → OutCounters) : (s.countOut i f).lines = s.lines := rfl
@[simp] theorem State.countOut_freeCells (i : FeedSlot) (f : OutCounters → OutCounters) : (s.countOut i f).freeCells = s.freeCells := rfl
@[simp] theorem State.countOut_feeds (i : FeedSlot) (f : OutCounters → OutCounters) : (s.countOut i f).feeds = s.feeds.modify i fun x => { x with out := { x.out with counters := f x.out.counters } } := rfl
@[simp] theorem State.countOut_classMap (i : FeedSlot) (f : OutCounters → OutCounters) : (s.countOut i f).classMap = s.classMap := rfl
@[simp] theorem State.countOut_scanCursor (i : FeedSlot) (f : OutCounters → OutCounters) : (s.countOut i f).scanCursor = s.scanCursor := rfl
@[simp] theorem State.countOut_ports (i : FeedSlot) (f : OutCounters → OutCounters) : (s.countOut i f).ports = s.ports := rfl
@[simp] theorem State.countOut_lineArrival (i : FeedSlot) (f : OutCounters → OutCounters) : (s.countOut i f).lineArrival = s.lineArrival := rfl
@[simp] theorem State.countOut_portArrival (i : FeedSlot) (f : OutCounters → OutCounters) : (s.countOut i f).portArrival = s.portArrival := rfl
@[simp] theorem State.countOut_tb (i : FeedSlot) (f : OutCounters → OutCounters) : (s.countOut i f).tb = s.tb := rfl
@[simp] theorem State.countOut_nu (i : FeedSlot) (f : OutCounters → OutCounters) : (s.countOut i f).nu = s.nu := rfl
@[simp] theorem State.countOut_window (i : FeedSlot) (f : OutCounters → OutCounters) : (s.countOut i f).window = s.window := rfl
@[simp] theorem State.countOut_presentPin (i : FeedSlot) (f : OutCounters → OutCounters) : (s.countOut i f).presentPin = s.presentPin := rfl
@[simp] theorem State.countOut_lockPin (i : FeedSlot) (f : OutCounters → OutCounters) : (s.countOut i f).lockPin = s.lockPin := rfl
@[simp] theorem State.countOut_clock (i : FeedSlot) (f : OutCounters → OutCounters) : (s.countOut i f).clock = s.clock := rfl
@[simp] theorem State.countOut_nextMs (i : FeedSlot) (f : OutCounters → OutCounters) : (s.countOut i f).nextMs = s.nextMs := rfl
@[simp] theorem State.countOut_pending (i : FeedSlot) (f : OutCounters → OutCounters) : (s.countOut i f).pending = s.pending := rfl

@[simp] theorem State.countInb_cmp (i : FeedSlot) (f : InCounters → InCounters) : (s.countInb i f).cmp = s.cmp := rfl
@[simp] theorem State.countInb_settings (i : FeedSlot) (f : InCounters → InCounters) : (s.countInb i f).settings = s.settings := rfl
@[simp] theorem State.countInb_paths (i : FeedSlot) (f : InCounters → InCounters) : (s.countInb i f).paths = s.paths := rfl
@[simp] theorem State.countInb_su (i : FeedSlot) (f : InCounters → InCounters) : (s.countInb i f).su = s.su := rfl
@[simp] theorem State.countInb_lines (i : FeedSlot) (f : InCounters → InCounters) : (s.countInb i f).lines = s.lines := rfl
@[simp] theorem State.countInb_freeCells (i : FeedSlot) (f : InCounters → InCounters) : (s.countInb i f).freeCells = s.freeCells := rfl
@[simp] theorem State.countInb_feeds (i : FeedSlot) (f : InCounters → InCounters) : (s.countInb i f).feeds = s.feeds.modify i fun x => { x with inb := { x.inb with counters := f x.inb.counters } } := rfl
@[simp] theorem State.countInb_classMap (i : FeedSlot) (f : InCounters → InCounters) : (s.countInb i f).classMap = s.classMap := rfl
@[simp] theorem State.countInb_scanCursor (i : FeedSlot) (f : InCounters → InCounters) : (s.countInb i f).scanCursor = s.scanCursor := rfl
@[simp] theorem State.countInb_ports (i : FeedSlot) (f : InCounters → InCounters) : (s.countInb i f).ports = s.ports := rfl
@[simp] theorem State.countInb_lineArrival (i : FeedSlot) (f : InCounters → InCounters) : (s.countInb i f).lineArrival = s.lineArrival := rfl
@[simp] theorem State.countInb_portArrival (i : FeedSlot) (f : InCounters → InCounters) : (s.countInb i f).portArrival = s.portArrival := rfl
@[simp] theorem State.countInb_tb (i : FeedSlot) (f : InCounters → InCounters) : (s.countInb i f).tb = s.tb := rfl
@[simp] theorem State.countInb_nu (i : FeedSlot) (f : InCounters → InCounters) : (s.countInb i f).nu = s.nu := rfl
@[simp] theorem State.countInb_window (i : FeedSlot) (f : InCounters → InCounters) : (s.countInb i f).window = s.window := rfl
@[simp] theorem State.countInb_presentPin (i : FeedSlot) (f : InCounters → InCounters) : (s.countInb i f).presentPin = s.presentPin := rfl
@[simp] theorem State.countInb_lockPin (i : FeedSlot) (f : InCounters → InCounters) : (s.countInb i f).lockPin = s.lockPin := rfl
@[simp] theorem State.countInb_clock (i : FeedSlot) (f : InCounters → InCounters) : (s.countInb i f).clock = s.clock := rfl
@[simp] theorem State.countInb_nextMs (i : FeedSlot) (f : InCounters → InCounters) : (s.countInb i f).nextMs = s.nextMs := rfl
@[simp] theorem State.countInb_pending (i : FeedSlot) (f : InCounters → InCounters) : (s.countInb i f).pending = s.pending := rfl

@[simp] theorem State.raisePaths_cmp (k : PathEvent) (w : FlagSet 32) : (s.raisePaths k w).cmp = s.cmp := rfl
@[simp] theorem State.raisePaths_settings (k : PathEvent) (w : FlagSet 32) : (s.raisePaths k w).settings = s.settings := rfl
@[simp] theorem State.raisePaths_paths (k : PathEvent) (w : FlagSet 32) : (s.raisePaths k w).paths = s.paths := rfl
@[simp] theorem State.raisePaths_su (k : PathEvent) (w : FlagSet 32) : (s.raisePaths k w).su = s.su := rfl
@[simp] theorem State.raisePaths_lines (k : PathEvent) (w : FlagSet 32) : (s.raisePaths k w).lines = s.lines := rfl
@[simp] theorem State.raisePaths_freeCells (k : PathEvent) (w : FlagSet 32) : (s.raisePaths k w).freeCells = s.freeCells := rfl
@[simp] theorem State.raisePaths_feeds (k : PathEvent) (w : FlagSet 32) : (s.raisePaths k w).feeds = s.feeds := rfl
@[simp] theorem State.raisePaths_classMap (k : PathEvent) (w : FlagSet 32) : (s.raisePaths k w).classMap = s.classMap := rfl
@[simp] theorem State.raisePaths_scanCursor (k : PathEvent) (w : FlagSet 32) : (s.raisePaths k w).scanCursor = s.scanCursor := rfl
@[simp] theorem State.raisePaths_ports (k : PathEvent) (w : FlagSet 32) : (s.raisePaths k w).ports = s.ports := rfl
@[simp] theorem State.raisePaths_lineArrival (k : PathEvent) (w : FlagSet 32) : (s.raisePaths k w).lineArrival = s.lineArrival := rfl
@[simp] theorem State.raisePaths_portArrival (k : PathEvent) (w : FlagSet 32) : (s.raisePaths k w).portArrival = s.portArrival := rfl
@[simp] theorem State.raisePaths_tb (k : PathEvent) (w : FlagSet 32) : (s.raisePaths k w).tb = s.tb := rfl
@[simp] theorem State.raisePaths_nu (k : PathEvent) (w : FlagSet 32) : (s.raisePaths k w).nu = s.nu.raisePaths k w := rfl
@[simp] theorem State.raisePaths_window (k : PathEvent) (w : FlagSet 32) : (s.raisePaths k w).window = s.window := rfl
@[simp] theorem State.raisePaths_presentPin (k : PathEvent) (w : FlagSet 32) : (s.raisePaths k w).presentPin = s.presentPin := rfl
@[simp] theorem State.raisePaths_lockPin (k : PathEvent) (w : FlagSet 32) : (s.raisePaths k w).lockPin = s.lockPin := rfl
@[simp] theorem State.raisePaths_clock (k : PathEvent) (w : FlagSet 32) : (s.raisePaths k w).clock = s.clock := rfl
@[simp] theorem State.raisePaths_nextMs (k : PathEvent) (w : FlagSet 32) : (s.raisePaths k w).nextMs = s.nextMs := rfl
@[simp] theorem State.raisePaths_pending (k : PathEvent) (w : FlagSet 32) : (s.raisePaths k w).pending = s.pending := rfl

@[simp] theorem State.raisePath_cmp (k : PathEvent) (i : PathSlot) : (s.raisePath k i).cmp = s.cmp := rfl
@[simp] theorem State.raisePath_settings (k : PathEvent) (i : PathSlot) : (s.raisePath k i).settings = s.settings := rfl
@[simp] theorem State.raisePath_paths (k : PathEvent) (i : PathSlot) : (s.raisePath k i).paths = s.paths := rfl
@[simp] theorem State.raisePath_su (k : PathEvent) (i : PathSlot) : (s.raisePath k i).su = s.su := rfl
@[simp] theorem State.raisePath_lines (k : PathEvent) (i : PathSlot) : (s.raisePath k i).lines = s.lines := rfl
@[simp] theorem State.raisePath_freeCells (k : PathEvent) (i : PathSlot) : (s.raisePath k i).freeCells = s.freeCells := rfl
@[simp] theorem State.raisePath_feeds (k : PathEvent) (i : PathSlot) : (s.raisePath k i).feeds = s.feeds := rfl
@[simp] theorem State.raisePath_classMap (k : PathEvent) (i : PathSlot) : (s.raisePath k i).classMap = s.classMap := rfl
@[simp] theorem State.raisePath_scanCursor (k : PathEvent) (i : PathSlot) : (s.raisePath k i).scanCursor = s.scanCursor := rfl
@[simp] theorem State.raisePath_ports (k : PathEvent) (i : PathSlot) : (s.raisePath k i).ports = s.ports := rfl
@[simp] theorem State.raisePath_lineArrival (k : PathEvent) (i : PathSlot) : (s.raisePath k i).lineArrival = s.lineArrival := rfl
@[simp] theorem State.raisePath_portArrival (k : PathEvent) (i : PathSlot) : (s.raisePath k i).portArrival = s.portArrival := rfl
@[simp] theorem State.raisePath_tb (k : PathEvent) (i : PathSlot) : (s.raisePath k i).tb = s.tb := rfl
@[simp] theorem State.raisePath_nu (k : PathEvent) (i : PathSlot) : (s.raisePath k i).nu = s.nu.raisePath k i := rfl
@[simp] theorem State.raisePath_window (k : PathEvent) (i : PathSlot) : (s.raisePath k i).window = s.window := rfl
@[simp] theorem State.raisePath_presentPin (k : PathEvent) (i : PathSlot) : (s.raisePath k i).presentPin = s.presentPin := rfl
@[simp] theorem State.raisePath_lockPin (k : PathEvent) (i : PathSlot) : (s.raisePath k i).lockPin = s.lockPin := rfl
@[simp] theorem State.raisePath_clock (k : PathEvent) (i : PathSlot) : (s.raisePath k i).clock = s.clock := rfl
@[simp] theorem State.raisePath_nextMs (k : PathEvent) (i : PathSlot) : (s.raisePath k i).nextMs = s.nextMs := rfl
@[simp] theorem State.raisePath_pending (k : PathEvent) (i : PathSlot) : (s.raisePath k i).pending = s.pending := rfl

@[simp] theorem State.raiseLine_cmp (k : LineEvent) (l : Line) : (s.raiseLine k l).cmp = s.cmp := rfl
@[simp] theorem State.raiseLine_settings (k : LineEvent) (l : Line) : (s.raiseLine k l).settings = s.settings := rfl
@[simp] theorem State.raiseLine_paths (k : LineEvent) (l : Line) : (s.raiseLine k l).paths = s.paths := rfl
@[simp] theorem State.raiseLine_su (k : LineEvent) (l : Line) : (s.raiseLine k l).su = s.su := rfl
@[simp] theorem State.raiseLine_lines (k : LineEvent) (l : Line) : (s.raiseLine k l).lines = s.lines := rfl
@[simp] theorem State.raiseLine_freeCells (k : LineEvent) (l : Line) : (s.raiseLine k l).freeCells = s.freeCells := rfl
@[simp] theorem State.raiseLine_feeds (k : LineEvent) (l : Line) : (s.raiseLine k l).feeds = s.feeds := rfl
@[simp] theorem State.raiseLine_classMap (k : LineEvent) (l : Line) : (s.raiseLine k l).classMap = s.classMap := rfl
@[simp] theorem State.raiseLine_scanCursor (k : LineEvent) (l : Line) : (s.raiseLine k l).scanCursor = s.scanCursor := rfl
@[simp] theorem State.raiseLine_ports (k : LineEvent) (l : Line) : (s.raiseLine k l).ports = s.ports := rfl
@[simp] theorem State.raiseLine_lineArrival (k : LineEvent) (l : Line) : (s.raiseLine k l).lineArrival = s.lineArrival := rfl
@[simp] theorem State.raiseLine_portArrival (k : LineEvent) (l : Line) : (s.raiseLine k l).portArrival = s.portArrival := rfl
@[simp] theorem State.raiseLine_tb (k : LineEvent) (l : Line) : (s.raiseLine k l).tb = s.tb := rfl
@[simp] theorem State.raiseLine_nu (k : LineEvent) (l : Line) : (s.raiseLine k l).nu = s.nu.raiseLine k l := rfl
@[simp] theorem State.raiseLine_window (k : LineEvent) (l : Line) : (s.raiseLine k l).window = s.window := rfl
@[simp] theorem State.raiseLine_presentPin (k : LineEvent) (l : Line) : (s.raiseLine k l).presentPin = s.presentPin := rfl
@[simp] theorem State.raiseLine_lockPin (k : LineEvent) (l : Line) : (s.raiseLine k l).lockPin = s.lockPin := rfl
@[simp] theorem State.raiseLine_clock (k : LineEvent) (l : Line) : (s.raiseLine k l).clock = s.clock := rfl
@[simp] theorem State.raiseLine_nextMs (k : LineEvent) (l : Line) : (s.raiseLine k l).nextMs = s.nextMs := rfl
@[simp] theorem State.raiseLine_pending (k : LineEvent) (l : Line) : (s.raiseLine k l).pending = s.pending := rfl

@[simp] theorem State.raiseFeed_cmp (k : FeedEvent) (i : FeedSlot) : (s.raiseFeed k i).cmp = s.cmp := rfl
@[simp] theorem State.raiseFeed_settings (k : FeedEvent) (i : FeedSlot) : (s.raiseFeed k i).settings = s.settings := rfl
@[simp] theorem State.raiseFeed_paths (k : FeedEvent) (i : FeedSlot) : (s.raiseFeed k i).paths = s.paths := rfl
@[simp] theorem State.raiseFeed_su (k : FeedEvent) (i : FeedSlot) : (s.raiseFeed k i).su = s.su := rfl
@[simp] theorem State.raiseFeed_lines (k : FeedEvent) (i : FeedSlot) : (s.raiseFeed k i).lines = s.lines := rfl
@[simp] theorem State.raiseFeed_freeCells (k : FeedEvent) (i : FeedSlot) : (s.raiseFeed k i).freeCells = s.freeCells := rfl
@[simp] theorem State.raiseFeed_feeds (k : FeedEvent) (i : FeedSlot) : (s.raiseFeed k i).feeds = s.feeds := rfl
@[simp] theorem State.raiseFeed_classMap (k : FeedEvent) (i : FeedSlot) : (s.raiseFeed k i).classMap = s.classMap := rfl
@[simp] theorem State.raiseFeed_scanCursor (k : FeedEvent) (i : FeedSlot) : (s.raiseFeed k i).scanCursor = s.scanCursor := rfl
@[simp] theorem State.raiseFeed_ports (k : FeedEvent) (i : FeedSlot) : (s.raiseFeed k i).ports = s.ports := rfl
@[simp] theorem State.raiseFeed_lineArrival (k : FeedEvent) (i : FeedSlot) : (s.raiseFeed k i).lineArrival = s.lineArrival := rfl
@[simp] theorem State.raiseFeed_portArrival (k : FeedEvent) (i : FeedSlot) : (s.raiseFeed k i).portArrival = s.portArrival := rfl
@[simp] theorem State.raiseFeed_tb (k : FeedEvent) (i : FeedSlot) : (s.raiseFeed k i).tb = s.tb := rfl
@[simp] theorem State.raiseFeed_nu (k : FeedEvent) (i : FeedSlot) : (s.raiseFeed k i).nu = s.nu.raiseFeed k i := rfl
@[simp] theorem State.raiseFeed_window (k : FeedEvent) (i : FeedSlot) : (s.raiseFeed k i).window = s.window := rfl
@[simp] theorem State.raiseFeed_presentPin (k : FeedEvent) (i : FeedSlot) : (s.raiseFeed k i).presentPin = s.presentPin := rfl
@[simp] theorem State.raiseFeed_lockPin (k : FeedEvent) (i : FeedSlot) : (s.raiseFeed k i).lockPin = s.lockPin := rfl
@[simp] theorem State.raiseFeed_clock (k : FeedEvent) (i : FeedSlot) : (s.raiseFeed k i).clock = s.clock := rfl
@[simp] theorem State.raiseFeed_nextMs (k : FeedEvent) (i : FeedSlot) : (s.raiseFeed k i).nextMs = s.nextMs := rfl
@[simp] theorem State.raiseFeed_pending (k : FeedEvent) (i : FeedSlot) : (s.raiseFeed k i).pending = s.pending := rfl

@[simp] theorem State.raisePlain_cmp (k : PlainEvent) : (s.raisePlain k).cmp = s.cmp := rfl
@[simp] theorem State.raisePlain_settings (k : PlainEvent) : (s.raisePlain k).settings = s.settings := rfl
@[simp] theorem State.raisePlain_paths (k : PlainEvent) : (s.raisePlain k).paths = s.paths := rfl
@[simp] theorem State.raisePlain_su (k : PlainEvent) : (s.raisePlain k).su = s.su := rfl
@[simp] theorem State.raisePlain_lines (k : PlainEvent) : (s.raisePlain k).lines = s.lines := rfl
@[simp] theorem State.raisePlain_freeCells (k : PlainEvent) : (s.raisePlain k).freeCells = s.freeCells := rfl
@[simp] theorem State.raisePlain_feeds (k : PlainEvent) : (s.raisePlain k).feeds = s.feeds := rfl
@[simp] theorem State.raisePlain_classMap (k : PlainEvent) : (s.raisePlain k).classMap = s.classMap := rfl
@[simp] theorem State.raisePlain_scanCursor (k : PlainEvent) : (s.raisePlain k).scanCursor = s.scanCursor := rfl
@[simp] theorem State.raisePlain_ports (k : PlainEvent) : (s.raisePlain k).ports = s.ports := rfl
@[simp] theorem State.raisePlain_lineArrival (k : PlainEvent) : (s.raisePlain k).lineArrival = s.lineArrival := rfl
@[simp] theorem State.raisePlain_portArrival (k : PlainEvent) : (s.raisePlain k).portArrival = s.portArrival := rfl
@[simp] theorem State.raisePlain_tb (k : PlainEvent) : (s.raisePlain k).tb = s.tb := rfl
@[simp] theorem State.raisePlain_nu (k : PlainEvent) : (s.raisePlain k).nu = s.nu.raisePlain k := rfl
@[simp] theorem State.raisePlain_window (k : PlainEvent) : (s.raisePlain k).window = s.window := rfl
@[simp] theorem State.raisePlain_presentPin (k : PlainEvent) : (s.raisePlain k).presentPin = s.presentPin := rfl
@[simp] theorem State.raisePlain_lockPin (k : PlainEvent) : (s.raisePlain k).lockPin = s.lockPin := rfl
@[simp] theorem State.raisePlain_clock (k : PlainEvent) : (s.raisePlain k).clock = s.clock := rfl
@[simp] theorem State.raisePlain_nextMs (k : PlainEvent) : (s.raisePlain k).nextMs = s.nextMs := rfl
@[simp] theorem State.raisePlain_pending (k : PlainEvent) : (s.raisePlain k).pending = s.pending := rfl

@[simp] theorem State.onPath_resetting (i : PathSlot) (f : Path → Path) : (s.onPath i f).resetting = s.resetting := rfl
@[simp] theorem State.onLine_resetting (l : Line) (f : LinePort → LinePort) : (s.onLine l f).resetting = s.resetting := rfl
@[simp] theorem State.onFeed_resetting (i : FeedSlot) (f : Feed → Feed) : (s.onFeed i f).resetting = s.resetting := rfl
@[simp] theorem State.onPort_resetting (p : Port) (f : LocalPort → LocalPort) : (s.onPort p f).resetting = s.resetting := rfl
@[simp] theorem State.onSu_resetting (f : SoundingUnit → SoundingUnit) : (s.onSu f).resetting = s.resetting := rfl
@[simp] theorem State.onTb_resetting (f : TimeBase → TimeBase) : (s.onTb f).resetting = s.resetting := rfl
@[simp] theorem State.onNu_resetting (f : NoticeUnit → NoticeUnit) : (s.onNu f).resetting = s.resetting := rfl
@[simp] theorem State.countLine_resetting (l : Line) (f : LineCounters → LineCounters) : (s.countLine l f).resetting = s.resetting := rfl
@[simp] theorem State.countPath_resetting (i : PathSlot) (f : PathCounters → PathCounters) : (s.countPath i f).resetting = s.resetting := rfl
@[simp] theorem State.countPort_resetting (p : Port) (f : PortCounters → PortCounters) : (s.countPort p f).resetting = s.resetting := rfl
@[simp] theorem State.onOut_resetting (i : FeedSlot) (f : OutFields → OutFields) : (s.onOut i f).resetting = s.resetting := rfl
@[simp] theorem State.onInb_resetting (i : FeedSlot) (f : InFields → InFields) : (s.onInb i f).resetting = s.resetting := rfl
@[simp] theorem State.countOut_resetting (i : FeedSlot) (f : OutCounters → OutCounters) : (s.countOut i f).resetting = s.resetting := rfl
@[simp] theorem State.countInb_resetting (i : FeedSlot) (f : InCounters → InCounters) : (s.countInb i f).resetting = s.resetting := rfl
@[simp] theorem State.raisePaths_resetting (k : PathEvent) (w : FlagSet 32) : (s.raisePaths k w).resetting = s.resetting := rfl
@[simp] theorem State.raisePath_resetting (k : PathEvent) (i : PathSlot) : (s.raisePath k i).resetting = s.resetting := rfl
@[simp] theorem State.raiseLine_resetting (k : LineEvent) (l : Line) : (s.raiseLine k l).resetting = s.resetting := rfl
@[simp] theorem State.raiseFeed_resetting (k : FeedEvent) (i : FeedSlot) : (s.raiseFeed k i).resetting = s.resetting := rfl
@[simp] theorem State.raisePlain_resetting (k : PlainEvent) : (s.raisePlain k).resetting = s.resetting := rfl

@[simp] theorem State.lineQuiet_cmp (l : Line) : (s.lineQuiet l).cmp = s.cmp := rfl
@[simp] theorem State.lineQuiet_settings (l : Line) : (s.lineQuiet l).settings = s.settings := rfl
@[simp] theorem State.lineQuiet_paths (l : Line) : (s.lineQuiet l).paths = s.paths := rfl
@[simp] theorem State.lineQuiet_su (l : Line) : (s.lineQuiet l).su = s.su := rfl
@[simp] theorem State.lineQuiet_lines (l : Line) : (s.lineQuiet l).lines = s.lines := rfl
@[simp] theorem State.lineQuiet_freeCells (l : Line) : (s.lineQuiet l).freeCells = s.freeCells := rfl
@[simp] theorem State.lineQuiet_feeds (l : Line) : (s.lineQuiet l).feeds = s.feeds := rfl
@[simp] theorem State.lineQuiet_classMap (l : Line) : (s.lineQuiet l).classMap = s.classMap := rfl
@[simp] theorem State.lineQuiet_scanCursor (l : Line) : (s.lineQuiet l).scanCursor = s.scanCursor := rfl
@[simp] theorem State.lineQuiet_ports (l : Line) : (s.lineQuiet l).ports = s.ports := rfl
@[simp] theorem State.lineQuiet_lineArrival (l : Line) : (s.lineQuiet l).lineArrival = s.lineArrival.set l none := rfl
@[simp] theorem State.lineQuiet_portArrival (l : Line) : (s.lineQuiet l).portArrival = s.portArrival := rfl
@[simp] theorem State.lineQuiet_tb (l : Line) : (s.lineQuiet l).tb = s.tb := rfl
@[simp] theorem State.lineQuiet_nu (l : Line) : (s.lineQuiet l).nu = s.nu := rfl
@[simp] theorem State.lineQuiet_window (l : Line) : (s.lineQuiet l).window = s.window := rfl
@[simp] theorem State.lineQuiet_presentPin (l : Line) : (s.lineQuiet l).presentPin = s.presentPin := rfl
@[simp] theorem State.lineQuiet_lockPin (l : Line) : (s.lineQuiet l).lockPin = s.lockPin := rfl
@[simp] theorem State.lineQuiet_clock (l : Line) : (s.lineQuiet l).clock = s.clock := rfl
@[simp] theorem State.lineQuiet_nextMs (l : Line) : (s.lineQuiet l).nextMs = s.nextMs := rfl
@[simp] theorem State.lineQuiet_pending (l : Line) : (s.lineQuiet l).pending = s.pending := rfl

@[simp] theorem State.portQuiet_cmp (p : Port) : (s.portQuiet p).cmp = s.cmp := rfl
@[simp] theorem State.portQuiet_settings (p : Port) : (s.portQuiet p).settings = s.settings := rfl
@[simp] theorem State.portQuiet_paths (p : Port) : (s.portQuiet p).paths = s.paths := rfl
@[simp] theorem State.portQuiet_su (p : Port) : (s.portQuiet p).su = s.su := rfl
@[simp] theorem State.portQuiet_lines (p : Port) : (s.portQuiet p).lines = s.lines := rfl
@[simp] theorem State.portQuiet_freeCells (p : Port) : (s.portQuiet p).freeCells = s.freeCells := rfl
@[simp] theorem State.portQuiet_feeds (p : Port) : (s.portQuiet p).feeds = s.feeds := rfl
@[simp] theorem State.portQuiet_classMap (p : Port) : (s.portQuiet p).classMap = s.classMap := rfl
@[simp] theorem State.portQuiet_scanCursor (p : Port) : (s.portQuiet p).scanCursor = s.scanCursor := rfl
@[simp] theorem State.portQuiet_ports (p : Port) : (s.portQuiet p).ports = s.ports := rfl
@[simp] theorem State.portQuiet_lineArrival (p : Port) : (s.portQuiet p).lineArrival = s.lineArrival := rfl
@[simp] theorem State.portQuiet_portArrival (p : Port) : (s.portQuiet p).portArrival = s.portArrival.set p none := rfl
@[simp] theorem State.portQuiet_tb (p : Port) : (s.portQuiet p).tb = s.tb := rfl
@[simp] theorem State.portQuiet_nu (p : Port) : (s.portQuiet p).nu = s.nu := rfl
@[simp] theorem State.portQuiet_window (p : Port) : (s.portQuiet p).window = s.window := rfl
@[simp] theorem State.portQuiet_presentPin (p : Port) : (s.portQuiet p).presentPin = s.presentPin := rfl
@[simp] theorem State.portQuiet_lockPin (p : Port) : (s.portQuiet p).lockPin = s.lockPin := rfl
@[simp] theorem State.portQuiet_clock (p : Port) : (s.portQuiet p).clock = s.clock := rfl
@[simp] theorem State.portQuiet_nextMs (p : Port) : (s.portQuiet p).nextMs = s.nextMs := rfl
@[simp] theorem State.portQuiet_pending (p : Port) : (s.portQuiet p).pending = s.pending := rfl

end Sys2Proof.Machine
end

