-- ==== Sys2Proof/Laws/Port.lean ====
section
/-! SUPPORT. What a request transaction can do: taken with an answer, or not taken; the outcomes requests share; and the command that a first byte names. -/

namespace Sys2Proof.Machine

variable (s : State)

/-- A request taken from an IDLE engine runs, and answers (R165, R167). -/
theorem State.request_of_idle {s : State} (h : s.cmp.engine = .idle) (code : Byte) (body : List Byte) (run : State → State × Reply) :
    s.request code body run = ((run (s.taken body)).1).answering code (run (s.taken body)).2 := by
  rw [State.request, if_pos h]

/-- A request at a busy engine leaves everything but MISO as it was (R165). -/
theorem State.request_of_busy {s : State} (h : s.cmp.engine ≠ .idle) (code : Byte) (body : List Byte) (run : State → State × Reply) :
    s.request code body run = { s with cmp := s.unanswered body } := by
  rw [State.request, if_neg h]
  rfl

/-- A request that leaves the port to itself: its unit's new state, with the answer in work (R165, R167). -/
theorem State.request_eq {s t : State} {r : Reply} (h : s.cmp.engine = .idle) {code : Byte} {body : List Byte} {run : State → State × Reply}
    (hr : run (s.taken body) = ({ t with cmp := (s.taken body).cmp }, r)) :
    s.request code body run = { t with cmp := s.answered body code r.result r.fields } := by
  rw [State.request_of_idle h, hr]
  rfl

/-- The state a request's checks see: only the port differs. -/
theorem State.taken_eq (body : List Byte) : s.taken body = { s with cmp := (s.taken body).cmp } := rfl

@[simp] theorem State.taken_settings (body : List Byte) : (s.taken body).settings = s.settings := rfl
@[simp] theorem State.taken_paths (body : List Byte) : (s.taken body).paths = s.paths := rfl
@[simp] theorem State.taken_su (body : List Byte) : (s.taken body).su = s.su := rfl
@[simp] theorem State.taken_lines (body : List Byte) : (s.taken body).lines = s.lines := rfl
@[simp] theorem State.taken_freeCells (body : List Byte) : (s.taken body).freeCells = s.freeCells := rfl
@[simp] theorem State.taken_lineArrival (body : List Byte) : (s.taken body).lineArrival = s.lineArrival := rfl
@[simp] theorem State.taken_portArrival (body : List Byte) : (s.taken body).portArrival = s.portArrival := rfl
@[simp] theorem State.taken_presentPin (body : List Byte) : (s.taken body).presentPin = s.presentPin := rfl
@[simp] theorem State.taken_lockPin (body : List Byte) : (s.taken body).lockPin = s.lockPin := rfl
@[simp] theorem State.taken_nextMs (body : List Byte) : (s.taken body).nextMs = s.nextMs := rfl
@[simp] theorem State.taken_feeds (body : List Byte) : (s.taken body).feeds = s.feeds := rfl
@[simp] theorem State.taken_classMap (body : List Byte) : (s.taken body).classMap = s.classMap := rfl
@[simp] theorem State.taken_scanCursor (body : List Byte) : (s.taken body).scanCursor = s.scanCursor := rfl
@[simp] theorem State.taken_ports (body : List Byte) : (s.taken body).ports = s.ports := rfl
@[simp] theorem State.taken_tb (body : List Byte) : (s.taken body).tb = s.tb := rfl
@[simp] theorem State.taken_nu (body : List Byte) : (s.taken body).nu = s.nu := rfl
@[simp] theorem State.taken_window (body : List Byte) : (s.taken body).window = s.window := rfl
@[simp] theorem State.taken_clock (body : List Byte) : (s.taken body).clock = s.clock := rfl
@[simp] theorem State.taken_pending (body : List Byte) : (s.taken body).pending = s.pending := rfl

/-- A refusal leaves every unit as it was (R166). -/
theorem State.request_refusing {s : State} (h : s.cmp.engine = .idle) {code : Byte} {body : List Byte} {run : State → State × Reply} {r : Result}
    (hr : run (s.taken body) = (s.taken body).refusing r) : s.request code body run = { s with cmp := s.answered body code r [] } :=
  State.request_eq h (t := s) (r := refuse r) hr

@[simp] theorem State.ofLength_self (body : List Byte) (act : State × Reply) : s.ofLength body.length body act = act := if_pos rfl

/-- A request of another length is MALFORMED (R166). -/
theorem State.ofLength_ne {n : Nat} {body : List Byte} (h : body.length ≠ n) (act : State × Reply) :
    s.ofLength n body act = s.refusing .malformed := if_neg h

@[simp] theorem State.parsed_some {α : Type} (x : α) (act : α → State × Reply) : s.parsed (some x) act = act x := rfl

@[simp] theorem State.parsed_none {α : Type} (act : α → State × Reply) : s.parsed none act = s.refusing .malformed := rfl

/-- What a path command's lifecycle check can do (R3). -/
theorem State.checkPath_cases (i : PathSlot) (allowed : Lifecycle → Bool) (act : State × Reply) :
    ((s.paths.get i).life = .vacant ∧ s.checkPath i allowed act = s.refusing .notFound)
    ∨ ((s.paths.get i).life ≠ .vacant ∧ allowed (s.paths.get i).life = true ∧ s.checkPath i allowed act = act)
    ∨ ((s.paths.get i).life ≠ .vacant ∧ allowed (s.paths.get i).life = false ∧ s.checkPath i allowed act = s.refusing .wrongState) := by
  unfold State.checkPath
  by_cases h : (s.paths.get i).life = .vacant
  · simp [h]
  · cases ha : allowed (s.paths.get i).life <;> simp [h]

/-- What a feed command's check can do (R80 to R82). -/
theorem State.checkFeed_cases (k : FeedSlot) (act : State × Reply) :
    ((s.feeds.get k).opened = true ∧ s.checkFeed k act = act) ∨ ((s.feeds.get k).opened = false ∧ s.checkFeed k act = s.refusing .notFound) := by
  unfold State.checkFeed
  cases (s.feeds.get k).opened <;> simp

/-- An index below the bound is spelled (R3). -/
theorem indexOf_lt {n v : Nat} (h : v < n) : indexOf n v = some ⟨v, h⟩ := dif_pos h

/-- An index at or above the bound is not (R3). -/
theorem indexOf_ge {n v : Nat} (h : n ≤ v) : indexOf n v = none := dif_neg (by omega)

@[simp] theorem indexOf_fin {n : Nat} (i : Fin n) : indexOf n i.val = some i := indexOf_lt i.isLt

/-- What the engine's completion can do (R167). -/
theorem State.completeCommand_working {s : State} {r : Response} (h : s.cmp.engine = .working r) :
    s.completeCommand = { s with cmp := { s.cmp with engine := .idle, buffer := some r } } := by
  rw [State.completeCommand, h]
  rfl

/-- Every first byte but 00h names one command, whose meaning is the whole transaction (R163). -/
theorem exec_transactionOf {first : Byte} (h : first ≠ 0x00) (body : List Byte) :
    ∃ c, transactionOf first body = [c] ∧ exec c s = .next (s.transaction first body) := by
  have eq {k : Nat} (hk : first.toNat = k) : first = BitVec.ofNat 8 k := by rw [← hk]; simp
  unfold transactionOf
  split <;> rename_i hk
  case h_1 => exact absurd (eq hk) h
  all_goals first
    | (have e := eq hk; subst e; exact ⟨_, rfl, rfl⟩)
    | (have e := eq hk; subst e; split <;> exact ⟨_, rfl, rfl⟩)
    | exact ⟨_, rfl, rfl⟩

/-- A first byte of 00h is READ-STATUS, with one command for each byte (R163, R169). -/
theorem transactionOf_readStatus (body : List Byte) : transactionOf 0x00 body = .readStatus false :: body.map fun _ => .readStatus true := rfl

end Sys2Proof.Machine
end

