-- ==== Sys2Proof/Laws/Table.lean ====
section
/-! SUPPORT. Reading a table after a change, and membership in a set after a change. -/

namespace Sys2Proof

namespace Table

variable {α β : Type} {n : Nat}

/-- A record is the element of the list at its index. -/
theorem get_eq (t : Table α n) (i : Fin n) : t.get i = t.cells[i.val]'(t.size_eq.symm ▸ i.isLt) := rfl

/-- Two tables with the same records are equal. -/
theorem ext_get {a b : Table α n} (h : ∀ i, a.get i = b.get i) : a = b := by
  obtain ⟨ca, ha⟩ := a
  obtain ⟨cb, hb⟩ := b
  have : ca = cb := by
    apply List.ext_getElem (ha.trans hb.symm)
    intro i h1 h2
    have := h ⟨i, ha ▸ h1⟩
    simpa [get_eq] using this
  subst this
  rfl

@[simp] theorem get_set_self (t : Table α n) (i : Fin n) (a : α) : (t.set i a).get i = a := by simp [get_eq, set]

@[simp] theorem get_set_ne (t : Table α n) {i k : Fin n} (h : k ≠ i) (a : α) : (t.set i a).get k = t.get k := by
  simp [get_eq, set, Fin.val_ne_of_ne h.symm]

/-- A record after one record was replaced. -/
theorem get_set (t : Table α n) (i k : Fin n) (a : α) : (t.set i a).get k = if k = i then a else t.get k := by
  split
  · next h => subst h; exact get_set_self ..
  · next h => exact get_set_ne _ h _

@[simp] theorem get_modify_self (t : Table α n) (i : Fin n) (f : α → α) : (t.modify i f).get i = f (t.get i) := get_set_self ..

@[simp] theorem get_modify_ne (t : Table α n) {i k : Fin n} (h : k ≠ i) (f : α → α) : (t.modify i f).get k = t.get k := get_set_ne _ h _

/-- A record after one record was changed. -/
theorem get_modify (t : Table α n) (i k : Fin n) (f : α → α) : (t.modify i f).get k = if k = i then f (t.get i) else t.get k := get_set ..

@[simp] theorem get_ofFn (f : Fin n → α) (i : Fin n) : (ofFn f).get i = f i := by simp [get_eq, ofFn]

@[simp] theorem get_mapIdx (f : Fin n → α → β) (t : Table α n) (i : Fin n) : (t.mapIdx f).get i = f i (t.get i) := get_ofFn _ _

@[simp] theorem get_map (f : α → β) (t : Table α n) (i : Fin n) : (t.map f).get i = f (t.get i) := by simp [get_eq, map]

@[simp] theorem get_replicate (a : α) (i : Fin n) : (replicate n a).get i = a := by simp [get_eq, replicate]

/-- Writing back what is there changes nothing. -/
@[simp] theorem set_get (t : Table α n) (i : Fin n) : t.set i (t.get i) = t := by
  apply ext_get
  intro k
  rw [get_set]
  split
  · next h => subst h; rfl
  · rfl

/-- A change after a change of the same record is one change. -/
@[simp] theorem set_set (t : Table α n) (i : Fin n) (a b : α) : (t.set i a).set i b = t.set i b := by
  apply ext_get
  intro k
  rw [get_set, get_set, get_set]
  split <;> rfl

/-- The lowest index found satisfies the condition, and none below it does. -/
theorem lowest_some {t : Table α n} {p : Fin n → α → Bool} {i : Fin n} (h : t.lowest p = some i) :
    p i (t.get i) = true ∧ ∀ k, k < i → p k (t.get k) = false := by
  have h' := h
  rw [lowest, List.find?_eq_some_iff_append] at h'
  obtain ⟨hp, as, bs, hl, ha⟩ := h'
  refine ⟨hp, fun k hk => ?_⟩
  have hs : (List.finRange n).Pairwise (· < ·) := List.pairwise_lt_finRange n
  have hm : k ∈ as ++ i :: bs := hl ▸ List.mem_finRange k
  rw [hl, List.pairwise_append] at hs
  rcases List.mem_append.1 hm with h1 | h1
  · simpa using ha k h1
  · rcases List.mem_cons.1 h1 with rfl | h2
    · exact absurd hk (lt_irrefl _)
    · exact absurd hk (not_lt.2 (le_of_lt ((List.pairwise_cons.1 hs.2.1).1 k h2)))

/-- No index is found exactly when no record satisfies the condition. -/
theorem lowest_none {t : Table α n} {p : Fin n → α → Bool} : t.lowest p = none ↔ ∀ k, p k (t.get k) = false := by
  simp [lowest, List.find?_eq_none]

end Table

namespace FlagSet

variable {n : Nat}

@[simp] theorem mem_empty (i : Nat) : (FlagSet.empty n).mem i = false := by simp [mem, empty]

@[simp] theorem mem_zero (i : Nat) : (0 : FlagSet n).mem i = false := by simp [mem]

/-- Membership after an insertion. -/
theorem mem_insert (s : FlagSet n) (i k : Nat) (h : k < n) : (FlagSet.insert s i).mem k = (s.mem k || decide (i = k)) := by
  by_cases e : i = k
  · simp [mem, FlagSet.insert, e, h]
  · simp [mem, FlagSet.insert, e, Ne.symm e, h]

/-- Membership after a removal. -/
theorem mem_erase (s : FlagSet n) (i k : Nat) (h : k < n) : (FlagSet.erase s i).mem k = (s.mem k && !decide (i = k)) := by
  by_cases e : i = k
  · simp [mem, FlagSet.erase, e, h]
  · simp [mem, FlagSet.erase, e, Ne.symm e, h]

@[simp] theorem mem_insert_fin (s : FlagSet n) (i k : Fin n) : (FlagSet.insert s i.val).mem k.val = (s.mem k.val || decide (i = k)) := by
  rw [mem_insert _ _ _ k.isLt]; simp [Fin.ext_iff]

@[simp] theorem mem_erase_fin (s : FlagSet n) (i k : Fin n) : (FlagSet.erase s i.val).mem k.val = (s.mem k.val && !decide (i = k)) := by
  rw [mem_erase _ _ _ k.isLt]; simp [Fin.ext_iff]

@[simp] theorem mem_or (s t : FlagSet n) (i : Nat) : (s ||| t).mem i = (s.mem i || t.mem i) := by simp [mem]

@[simp] theorem mem_ofPred (p : Fin n → Bool) (i : Fin n) : (ofPred p).mem i.val = p i := by
  simp [mem, ofPred]

/-- Two sets with the same members are equal. -/
theorem ext_mem {s t : FlagSet n} (h : ∀ i : Fin n, s.mem i.val = t.mem i.val) : s = t := by
  apply BitVec.eq_of_getLsbD_eq
  intro i hi
  exact h ⟨i, hi⟩

end FlagSet

end Sys2Proof
end

