-- ==== Sys2Proof/Laws/Transmit.lean ====
section
/-! SUPPORT. What a frame boundary and an issue of soundings can do: they change the sounding unit, path counters, and what stands on the lines, and never the frames queued. -/

namespace Sys2Proof.Machine

/-- A line that differs only in what it sends and in its counters: its settings, its carrier and its queued frames are the same. -/
structure LinePort.Alike (p q : LinePort) : Prop where
  grade : q.grade = p.grade
  presence : q.presence = p.presence
  lock : q.lock = p.lock
  timer : q.timer = p.timer
  txEnable : q.txEnable = p.txEnable
  rxEnable : q.rxEnable = p.rxEnable
  ratio : q.ratio = p.ratio
  frames : q.frames = p.frames

theorem LinePort.Alike.refl (p : LinePort) : p.Alike p := ⟨rfl, rfl, rfl, rfl, rfl, rfl, rfl, rfl⟩

theorem LinePort.Alike.trans {p q r : LinePort} (h : p.Alike q) (k : q.Alike r) : p.Alike r :=
  ⟨k.grade.trans h.grade, k.presence.trans h.presence, k.lock.trans h.lock, k.timer.trans h.timer, k.txEnable.trans h.txEnable,
    k.rxEnable.trans h.rxEnable, k.ratio.trans h.ratio, k.frames.trans h.frames⟩

/-- A path that differs only in its counters. -/
def Path.Alike (p q : Path) : Prop := q = { p with counters := q.counters }

theorem Path.Alike.refl (p : Path) : p.Alike p := rfl

theorem Path.Alike.trans {p q r : Path} (h : p.Alike q) (k : q.Alike r) : p.Alike r := by
  unfold Path.Alike at *
  rw [k, h]

theorem Path.Alike.of_counters (p : Path) (c : PathCounters) : p.Alike { p with counters := c } := rfl

/-- A state that differs only by sending: the sounding unit, path counters, and what stands on the lines. -/
structure State.OnlySends (s t : State) : Prop where
  rest : t = { s with paths := t.paths, su := t.su, lines := t.lines }
  paths : ∀ i, (s.paths.get i).Alike (t.paths.get i)
  lines : ∀ l, (s.lines.get l).Alike (t.lines.get l)

theorem State.OnlySends.refl (s : State) : s.OnlySends s := ⟨rfl, fun _ => .refl _, fun _ => .refl _⟩

theorem State.OnlySends.trans {s t u : State} (h : s.OnlySends t) (k : t.OnlySends u) : s.OnlySends u :=
  ⟨by rw [k.rest, h.rest], fun i => (h.paths i).trans (k.paths i), fun l => (h.lines l).trans (k.lines l)⟩

/-- Sending on one line that keeps its settings and frames. -/
theorem State.OnlySends.onLine (s : State) (l : Line) (f : LinePort → LinePort) (h : (s.lines.get l).Alike (f (s.lines.get l))) :
    s.OnlySends (s.onLine l f) := by
  refine ⟨rfl, fun _ => .refl _, fun k => ?_⟩
  by_cases e : k = l
  · subst e; simpa using h
  · simpa [e] using LinePort.Alike.refl _

/-- A change of the sounding unit alone. -/
theorem State.OnlySends.onSu (s : State) (f : SoundingUnit → SoundingUnit) : s.OnlySends (s.onSu f) :=
  ⟨rfl, fun _ => .refl _, fun _ => .refl _⟩

/-- A change of path counters alone. -/
theorem State.OnlySends.countPath (s : State) (i : PathSlot) (f : PathCounters → PathCounters) : s.OnlySends (s.countPath i f) := by
  refine ⟨rfl, fun k => ?_, fun _ => .refl _⟩
  by_cases e : k = i
  · subst e; simpa using Path.Alike.of_counters _ _
  · simpa [e] using Path.Alike.refl _

/-- Frames of an IDLE line are those that wait. -/
theorem LinePort.frames_idle {p : LinePort} (h : p.tx = none) : p.frames = p.urgent ++ p.normal := by
  simp [frames, queue, sendingFrom, h, waiting]

/-- The start of a control frame on an IDLE line keeps its frames. -/
theorem LinePort.frames_control {p q : LinePort} (h : p.tx = none) (hu : q.urgent = p.urgent) (hn : q.normal = p.normal)
    (ht : ∀ c, q.sendingFrom c = []) : q.frames = p.frames := by
  rw [p.frames_idle h]
  simp [frames, queue, ht, hu, hn, waiting]

/-- The start of a traffic frame on an IDLE line keeps its frames (R99). -/
theorem LinePort.startTraffic_alike {p : LinePort} (h : p.tx = none) (clock : Nat) (c : Urgency) : p.Alike (p.startTraffic clock c) := by
  unfold startTraffic
  split
  · next _ hu => exact ⟨rfl, rfl, rfl, rfl, rfl, rfl, rfl, by rw [p.frames_idle h]; simp [frames, queue, sendingFrom, waiting, sending, hu]⟩
  · next hu => exact ⟨rfl, rfl, rfl, rfl, rfl, rfl, rfl, by rw [p.frames_idle h]; simp [frames, queue, sendingFrom, waiting, sending, hu]⟩
  · exact .refl _

/-- What stands on a line when its ECHO starts. -/
theorem State.startEcho_onlySends (s : State) (l : Line) (e : EchoEntry) (rest : List EchoEntry) (h : (s.lines.get l).tx = none) :
    s.OnlySends (s.startEcho l e rest) :=
  .onLine _ _ _ ⟨rfl, rfl, rfl, rfl, rfl, rfl, rfl, LinePort.frames_control h rfl rfl fun _ => rfl⟩

/-- What stands on a line when its SOUND starts. -/
theorem State.startSound_onlySends (s : State) (l : Line) (e : SoundEntry) (rest : List SoundEntry) (h : (s.lines.get l).tx = none) :
    s.OnlySends (s.startSound l e rest) := by
  have h1 : s.OnlySends (s.onLine l fun p => { p with sounds := rest, tx := some (p.sending s.clock (.sound e.tag e.id) 1) }) :=
    .onLine _ _ _ ⟨rfl, rfl, rfl, rfl, rfl, rfl, rfl, LinePort.frames_control h rfl rfl fun _ => rfl⟩
  unfold State.startSound
  dsimp only
  split
  · exact h1
  · exact h1.trans ((State.OnlySends.onSu _ _).trans (.countPath _ _ _))

/-- The start that a boundary chooses (R105). -/
theorem State.startNext_onlySends (s : State) (l : Line) (h : (s.lines.get l).tx = none) : s.OnlySends (s.startNext l) := by
  unfold State.startNext
  split
  · exact s.startEcho_onlySends l _ _ h
  · exact s.startSound_onlySends l _ _ h
  · exact .onLine _ _ _ (LinePort.startTraffic_alike h _ _)
  · exact .refl _

/-- A frame boundary only sends (R104). -/
theorem State.boundary_onlySends (s : State) (l : Line) : s.OnlySends (s.boundary l) := by
  unfold State.boundary
  split
  · exact .refl _
  · next h =>
    have ht : (s.lines.get l).tx = none := by
      cases e : (s.lines.get l).tx with
      | none => rfl
      | some x => simp [e] at h
    have h1 : s.OnlySends (s.onLine l fun p => if p.normal = [] then { p with ratioCount := 0 } else p) := by
      apply State.OnlySends.onLine
      split
      · exact ⟨rfl, rfl, rfl, rfl, rfl, rfl, rfl, by simp [LinePort.frames, LinePort.queue, LinePort.sendingFrom, LinePort.waiting]⟩
      · exact .refl _
    dsimp only
    split
    · apply h1.trans
      apply State.startNext_onlySends
      simp only [State.onLine_lines, Table.get_modify_self]
      split <;> exact ht
    · exact h1

/-- An issue only sends (R26). -/
theorem State.issue_onlySends (s : State) (i : PathSlot) (c : ContextId) : s.OnlySends (s.issue i c) := by
  unfold State.issue
  dsimp only
  refine State.OnlySends.trans ?_ (State.boundary_onlySends _ _)
  refine State.OnlySends.trans (State.OnlySends.onSu s _) (State.OnlySends.onLine _ _ _ ?_)
  exact ⟨rfl, rfl, rfl, rfl, rfl, rfl, rfl, by simp [LinePort.frames, LinePort.queue, LinePort.sendingFrom, LinePort.waiting]⟩

/-- What serving one path can do (R26, R28, R29). -/
theorem State.servePath_cases (s : State) (i : PathSlot) :
    (s.canIssue i = false ∧ s.servePath i = s)
    ∨ (s.canIssue i = true ∧ ∃ c, s.su.freeContext = some c ∧ s.servePath i = s.issue i c)
    ∨ (s.canIssue i = true ∧ s.su.freeContext = none ∧ s.su.waiting.mem i.val = true ∧ s.servePath i = s)
    ∨ (s.canIssue i = true ∧ s.su.freeContext = none ∧ s.su.waiting.mem i.val = false
      ∧ s.servePath i = (s.onSu fun u => { u with waiting := u.waiting.insert i.val }).countPath i fun k =>
          { k with soundingsDeferred := bump k.soundingsDeferred }) := by
  unfold State.servePath
  cases s.canIssue i
  · exact .inl ⟨rfl, rfl⟩
  · cases hc : s.su.freeContext with
    | some c => exact .inr (.inl ⟨rfl, c, rfl, rfl⟩)
    | none => cases hw : s.su.waiting.mem i.val <;> simp

/-- Serving one path only sends (R26, R28). -/
theorem State.servePath_onlySends (s : State) (i : PathSlot) : s.OnlySends (s.servePath i) := by
  unfold State.servePath
  split
  · split
    · exact s.issue_onlySends i _
    · split
      · exact .refl _
      · exact (State.OnlySends.onSu _ _).trans (.countPath _ _ _)
  · exact .refl _

/-- A chain of steps that only send only sends. -/
theorem State.OnlySends.foldl {α : Type} (f : State → α → State) (h : ∀ (s : State) (a : α), s.OnlySends (f s a)) (l : List α) (s : State) :
    s.OnlySends (l.foldl f s) := by
  induction l generalizing s with
  | nil => exact .refl _
  | cons a l ih => exact (h s a).trans (ih _)

/-- Serving the due paths only sends (R26 to R29). -/
theorem State.serve_onlySends (s : State) : s.OnlySends s.serve := by
  unfold State.serve
  split
  · exact .refl _
  · exact .foldl _ State.servePath_onlySends _ s

/-- Every path slot has exactly one turn in the order of service (R26, R28). -/
theorem State.serveOrder_perm (s : State) : s.serveOrder.Perm (List.finRange 32) := by
  unfold State.serveOrder
  split
  · exact .refl _
  · exact List.filter_append_perm _ _

/-- With no path due, serving changes nothing. -/
theorem State.serve_of_no_due (s : State) (h : ∀ i : PathSlot, s.su.due.mem i.val = false) : s.serve = s := by
  have path (i : PathSlot) : s.servePath i = s := by simp [State.servePath, State.canIssue, h i]
  have chain (l : List PathSlot) : l.foldl State.servePath s = s := by
    induction l with
    | nil => rfl
    | cons a l ih => rw [List.foldl_cons, path, ih]
  unfold State.serve
  split
  · rfl
  · exact chain _

end Sys2Proof.Machine
end

