-- ==== Sys2Proof/Laws/Units.lean ====
section
/-! SUPPORT. For the shared operations of the units: one lemma each that says all it can do. -/

namespace Sys2Proof.Machine

variable {s : State}

/-! ### Looking up -/

/-- A path found holds the line and tag, and no lower slot does (R18). -/
theorem State.findPath_some {line : Line} {tag : BitVec 12} {i : PathSlot} (h : s.findPath line tag = some i) :
    (s.paths.get i).holds line tag = true ∧ ∀ k, k < i → (s.paths.get k).holds line tag = false := Table.lowest_some h

/-- No path is found exactly when none holds the line and tag (R18). -/
theorem State.findPath_none {line : Line} {tag : BitVec 12} : s.findPath line tag = none ↔ ∀ k, (s.paths.get k).holds line tag = false := Table.lowest_none

/-- What it means to hold a line and tag (R1). -/
theorem Path.holds_iff {p : Path} {line : Line} {tag : BitVec 12} : p.holds line tag = true ↔ p.life ≠ .vacant ∧ p.line = line ∧ p.tag = tag := by
  simp [Path.holds, and_assoc]

/-- With identities unique, the path that holds a line and tag is the one found (R1). -/
theorem State.findPath_of_unique (h : s.IdentitiesUnique) {i : PathSlot} (hi : (s.paths.get i).life ≠ .vacant) :
    s.findPath (s.paths.get i).line (s.paths.get i).tag = some i := by
  cases hf : s.findPath (s.paths.get i).line (s.paths.get i).tag with
  | none =>
    have := State.findPath_none.mp hf i
    rw [Bool.eq_false_iff, Ne, Path.holds_iff] at this
    exact absurd ⟨hi, rfl, rfl⟩ this
  | some k =>
    obtain ⟨hk, hl, ht⟩ := Path.holds_iff.mp (State.findPath_some hf).1
    by_cases e : k = i
    · rw [e]
    · exact absurd ⟨hl, ht⟩ (h k i e hk hi)

/-- A feed found is OPEN, of the direction and number (R77). -/
theorem State.findFeed_some {d : Direction} {n : BitVec 16} {k : FeedSlot} (h : s.findFeed d n = some k) :
    (s.feeds.get k).opened = true ∧ (s.feeds.get k).direction = d ∧ (s.feeds.get k).number = n := by
  simpa [and_assoc] using (Table.lowest_some h).1

/-- No feed is found exactly when none is OPEN with the direction and number (R77). -/
theorem State.findFeed_none {d : Direction} {n : BitVec 16} :
    s.findFeed d n = none ↔ ∀ k, ¬ ((s.feeds.get k).opened = true ∧ (s.feeds.get k).direction = d ∧ (s.feeds.get k).number = n) := by
  rw [State.findFeed, Table.lowest_none]
  simp

/-- With numbers unique, the OPEN feed of a direction and number is the one found (R77). -/
theorem State.findFeed_of_unique (h : s.NumbersUnique) {k : FeedSlot} (hk : (s.feeds.get k).opened = true) :
    s.findFeed (s.feeds.get k).direction (s.feeds.get k).number = some k := by
  cases hf : s.findFeed (s.feeds.get k).direction (s.feeds.get k).number with
  | none => exact absurd ⟨hk, rfl, rfl⟩ (State.findFeed_none.mp hf k)
  | some m =>
    obtain ⟨hm, hd, hn⟩ := State.findFeed_some hf
    by_cases e : m = k
    · rw [e]
    · exact absurd ⟨hd, hn⟩ (h m k e hm hk)

/-! ### Events and notices -/

/-- Membership after an event of a path kind (R155). -/
theorem NoticeUnit.raisePath_pathSets (n : NoticeUnit) (k : PathEvent) (i m : PathSlot) (f : Fin 6) :
    ((n.raisePath k i).pathSets.get f).mem m.val = ((n.pathSets.get f).mem m.val || decide (f = k.index ∧ i = m)) := by
  by_cases e : f = k.index
  · subst e; simp [NoticeUnit.raisePath]
  · simp [NoticeUnit.raisePath, e]

/-- Membership after an event of a path kind for several paths (R155). -/
theorem NoticeUnit.raisePaths_pathSets (n : NoticeUnit) (k : PathEvent) (who : FlagSet 32) (m : PathSlot) (f : Fin 6) :
    ((n.raisePaths k who).pathSets.get f).mem m.val = ((n.pathSets.get f).mem m.val || (decide (f = k.index) && who.mem m.val)) := by
  unfold NoticeUnit.raisePaths
  split
  · next h => subst h; simp [FlagSet.mem]
  · by_cases e : f = k.index
    · subst e; simp
    · simp [e]

/-- All that NU does with a notice (R159). -/
theorem NoticeUnit.take_cases (n : NoticeUnit) (x : Notice) :
    (n.latch = none ∧ n.take x = { n with latch := some x })
    ∨ (∃ y, n.latch = some y ∧ y.feed = x.feed ∧ y.number = x.number ∧ n.take x = { n with latch := some { y with new := x.new, reason := x.reason, time := x.time } })
    ∨ (∃ y, n.latch = some y ∧ y.feed = x.feed ∧ y.number ≠ x.number ∧ n.take x = { n with latch := some x })
    ∨ ∃ y, n.latch = some y ∧ y.feed ≠ x.feed ∧ n.take x = { n with queued := n.queued.insert x.feed.val } := by
  unfold NoticeUnit.take
  cases h : n.latch with
  | none => exact .inl ⟨rfl, rfl⟩
  | some y =>
    by_cases hf : y.feed = x.feed
    · by_cases hn : y.number = x.number
      · exact .inr (.inl ⟨y, rfl, hf, hn, by simp [hf, hn]⟩)
      · exact .inr (.inr (.inl ⟨y, rfl, hf, hn, by simp [hf, hn]⟩))
    · exact .inr (.inr (.inr ⟨y, rfl, hf, by simp [hf]⟩))

/-- A lead set anew: nothing, or the lead and one notice (R91). -/
theorem State.setLead_cases (k : FeedSlot) (new : Option PathSlot) (reason : Reason) :
    ((s.feeds.get k).out.lead = new ∧ s.setLead k new reason = s)
    ∨ ((s.feeds.get k).out.lead ≠ new ∧ s.setLead k new reason = { s with
        feeds := s.feeds.modify k fun f => { f with out := { f.out with lead := new } }
        nu := s.nu.take ⟨k, (s.feeds.get k).number, (s.feeds.get k).out.lead, new, reason, s.tb.time⟩ }) := by
  by_cases h : (s.feeds.get k).out.lead = new
  · exact .inl ⟨h, if_pos h⟩
  · exact .inr ⟨h, if_neg h⟩

/-! ### Queues -/

/-- All that LQM answers to the offer of a copy (R101, R102). -/
theorem State.offer_cases (c : Copy) :
    (∃ i, s.findPath c.line c.tag = some i ∧ s.admits c.line c.urgency c.queued.cells = true ∧ s.offer c = (s.enqueue c i, some i))
    ∨ ((s.findPath c.line c.tag = none ∨ s.admits c.line c.urgency c.queued.cells = false)
      ∧ s.offer c = (s.countLine c.line fun k => { k with busyDrop := bump k.busyDrop }, none)) := by
  unfold State.offer
  cases hf : s.findPath c.line c.tag with
  | none => exact .inr ⟨.inl rfl, rfl⟩
  | some i =>
    cases ha : s.admits c.line c.urgency c.queued.cells with
    | true => exact .inl ⟨i, rfl, rfl, by simp⟩
    | false => exact .inr ⟨.inr rfl, by simp⟩

/-- All that a hand-over does (R94, R102). -/
theorem State.handOver_cases (k : FeedSlot) (i : PathSlot) (c : Copy) :
    (∃ m, s.findPath c.line c.tag = some m ∧ s.admits c.line c.urgency c.queued.cells = true
      ∧ s.handOver k i c = (s.enqueue c m).countPath i fun x => { x with copiesSent := bump x.copiesSent })
    ∨ ((s.findPath c.line c.tag = none ∨ s.admits c.line c.urgency c.queued.cells = false)
      ∧ s.handOver k i c = (s.countLine c.line fun x => { x with busyDrop := bump x.busyDrop }).countOut k (·.busy c.second)) := by
  obtain ⟨m, h1, h2, h3⟩ | ⟨h1, h3⟩ := s.offer_cases c
  · exact .inl ⟨m, h1, h2, by simp [State.handOver, h3]⟩
  · exact .inr ⟨h1, by simp [State.handOver, h3]⟩

/-- A frame gone from a path's count: the slot is vacated when it was the last of a WITHDRAWING path (R15, R108). -/
theorem State.dequeue_cases (i : PathSlot) :
    ((s.paths.get i).life = .withdrawing ∧ (s.paths.get i).queued - 1 = 0 ∧ s.dequeue i = { s with paths := s.paths.set i .vacant, nu := s.nu.raisePath .withdrawn i })
    ∨ (((s.paths.get i).life ≠ .withdrawing ∨ (s.paths.get i).queued - 1 ≠ 0)
      ∧ s.dequeue i = { s with paths := s.paths.modify i fun p => { p with queued := p.queued - 1 } }) := by
  unfold State.dequeue
  by_cases h : (s.paths.get i).life = .withdrawing ∧ (s.paths.get i).queued - 1 = 0
  · refine .inl ⟨h.1, h.2, ?_⟩
    simp [State.withdraw, State.onPath, State.raisePath, State.onNu, Table.modify, h.1, h.2]
  · refine .inr ⟨by tauto, ?_⟩
    have : ¬ ((s.paths.get i).life = .withdrawing ∧ (s.paths.get i).queued - 1 = 0) := h
    simp [State.onPath, this]

/-! ### Soundings -/

/-- A context after a voiding: free if it was named (R36). -/
theorem State.voidContexts_contexts (which : Context → Bool) (c : ContextId) :
    (s.voidContexts which).su.contexts.get c = (s.su.contexts.get c).filter fun x => !which x := by
  simp only [State.voidContexts, Table.get_mapIdx]
  split
  · next h =>
    cases hc : s.su.contexts.get c with
    | none => rfl
    | some x => simp [hc] at h; simp [Option.filter, h]
  · next h =>
    cases hc : s.su.contexts.get c with
    | none => rfl
    | some x => simp [hc] at h; simp [Option.filter, h]

/-- A line after a voiding: its SOUNDs of freed contexts are gone (R36). -/
theorem State.voidContexts_lines (which : Context → Bool) (l : Line) :
    (s.voidContexts which).lines.get l = { s.lines.get l with
      sounds := (s.lines.get l).sounds.filter fun e => (s.su.contexts.get e.context).all fun x => !which x } := by
  simp only [State.voidContexts, Table.get_map]
  congr 2
  funext e
  cases s.su.contexts.get e.context <;> simp

/-- A result handed to PT and WM: the path judged, its window counted, and the event of the judgement (R35). -/
theorem State.handResult_eq (i : PathSlot) (r : SoundResult) :
    s.handResult i r = { s with
      paths := s.paths.set i { ((s.paths.get i).takeResult s.settings r).path with
        weather := if (s.paths.get i).measured then (s.paths.get i).weather.countResult r else (s.paths.get i).weather }
      nu := match ((s.paths.get i).takeResult s.settings r).raised with
        | none => s.nu
        | some k => s.nu.raisePath k i } := by
  unfold State.handResult
  cases h : ((s.paths.get i).takeResult s.settings r).raised <;> simp [h, State.onPath, State.raisePath, State.onNu, Table.modify]

/-! ### Carrier loss -/

/-- A flush of a line (R110), but for the slots it vacates. -/
theorem State.flush_eq (l : Line) :
    ∃ gone : FlagSet 32,
      (∀ i : PathSlot, gone.mem i.val = true ↔
        (s.paths.get i).life = .withdrawing ∧ (s.paths.get i).line = l
          ∧ ((Path.flushed l (s.lines.get l) (s.paths.get i)).queued = 0))
      ∧ s.flush l = { s with
          freeCells := s.freeCells + queueCells (s.lines.get l).frames
          lines := s.lines.modify l LinePort.flush
          paths := s.paths.mapIdx fun i p => if gone.mem i.val then .vacant else Path.flushed l (s.lines.get l) p
          nu := s.nu.raisePaths .withdrawn gone } := by
  refine ⟨.ofPred fun i => (s.paths.get i).life = .withdrawing && (s.paths.get i).line = l
    && (Path.flushed l (s.lines.get l) (s.paths.get i)).queued = 0, fun i => by simp [and_assoc], ?_⟩
  have h : ∀ p : Path, (Path.flushed l (s.lines.get l) p).life = p.life ∧ (Path.flushed l (s.lines.get l) p).line = p.line := by
    intro p; unfold Path.flushed; split <;> exact ⟨rfl, rfl⟩
  simp only [State.flush, State.drained, State.onLine, State.raisePaths, State.onNu, Table.get_map, (h _).1, (h _).2]
  congr 1
  exact Table.ext_get fun i => by simp

/-- A local port offered a delivery: taken at the tail, or refused when full (R125). -/
theorem LocalPort.offer_cases (p : LocalPort) (d : Delivery) :
    (64 ≤ p.fifo.length ∧ p.offer d = ⟨p.fifo, { p.counters with deliveryDrop := bump p.counters.deliveryDrop }⟩)
    ∨ (p.fifo.length < 64 ∧ p.offer d = ⟨p.fifo ++ [d], p.counters⟩) := by
  unfold LocalPort.offer LocalPort.full
  by_cases h : 64 ≤ p.fifo.length
  · exact .inl ⟨h, by simp [Config.fifoFrames, h]⟩
  · exact .inr ⟨by omega, by simp [Config.fifoFrames, h]⟩

/-- All that SOFT-RESET's walk leaves, before its end (R22, R42, R76, R97, R114, R130, R162, R174). -/
theorem State.startWalk_eq (s : State) : s.startWalk = { s with
    cmp := { (s.taken []).cmp with engine := .walking }
    paths := s.paths.map fun p => p.walked (s.lines.get p.line).grade
    su := { s.su with contexts := .replicate 16 none, due := .empty 32, waiting := .empty 32 }
    lines := s.lines.map fun p => p.stopped.walked
    freeCells := Config.poolCells
    feeds := s.feeds.map Feed.walked
    scanCursor := 0
    ports := .replicate 4 ⟨[], .zero⟩
    nu := .clear s.nu.mask
    window := none } := by
  have voided (u : State) : (u.voidContexts fun _ => true).su = { u.su with contexts := .replicate 16 none } := by
    have h : (u.voidContexts fun _ => true).su.contexts = .replicate 16 none :=
      Table.ext_get fun c => by cases hc : u.su.contexts.get c <;> simp [State.voidContexts_contexts, hc, Option.filter]
    rw [← h]
    rfl
  have paths (u : State) : (u.voidContexts fun _ => true).paths.map (fun p => p.walked ((u.voidContexts fun _ => true).lines.get p.line).grade)
      = u.paths.map fun p => p.walked (u.lines.get p.line).grade :=
    Table.ext_get fun i => by simp only [Table.get_map, State.voidContexts_lines]; rfl
  have lines (u : State) : (u.voidContexts fun _ => true).lines.map LinePort.walked = u.lines.map LinePort.walked :=
    Table.ext_get fun l => by simp only [Table.get_map, State.voidContexts_lines]; rfl
  have stoppedPaths : s.paths.map (fun p => p.walked ((s.lines.map LinePort.stopped).get p.line).grade)
      = s.paths.map fun p => p.walked (s.lines.get p.line).grade :=
    Table.ext_get fun i => by simp only [Table.get_map]; rfl
  have stoppedLines : (s.lines.map LinePort.stopped).map LinePort.walked = s.lines.map fun p => p.stopped.walked :=
    Table.ext_get fun l => by simp only [Table.get_map]
  unfold State.startWalk State.walk
  simp only [voided, paths, lines]
  rw [← stoppedPaths, ← stoppedLines]
  rfl

end Sys2Proof.Machine
end

