-- ==== Sys2Proof/Tests/Slice0.lean ====
section
/-! SUPPORT. Tests of one step each, expected values from the spec's worked examples and tables, and for each statement a state that meets its hypotheses. -/

namespace Sys2Proof.Tests

set_option Elab.async false

open Sys2Proof Sys2Proof.Machine

/-! ### States -/

/-- Where a command leads; the state itself, if it leads to no next state. -/
def after (c : Instr) (s : State) : State :=
  match exec c s with
  | .next t => t
  | .fault _ => s
  | .refused _ => s

/-- The answer in work, as result and fields. -/
def answer (s : State) : Option (Result × List Nat) :=
  match s.cmp.engine with
  | .working r => some (r.result, r.fields.map (·.toNat))
  | _ => none

/-- After hardware reset with the engine IDLE. -/
def idle : State := { State.reset with cmp := ⟨.idle, none, [], false⟩ }

/-- The engine put in a state. -/
def engineIn (e : Engine) (s : State) : State := { s with cmp := { s.cmp with engine := e } }

/-- A path of a lifecycle and estimate on a line under a route tag. -/
def aPath (life : Lifecycle) (est : EstimateState) (line : Line) (tag : BitVec 12) (e j : Nat) : Path :=
  { Path.vacant with life := life, est := est, line := line, tag := tag, e := e, j := j, tuning := ⟨3340000, -200, 3, 50000, 20, 0⟩ }

/-- A frame of `n` cells queued under a route tag of a line. -/
def aFrame (line : Line) (tag : BitVec 12) (c : Urgency) (n : Nat) : QueuedFrame := ⟨⟨line, tag, c, 7, 3, 5, 0, [1], false⟩, n, 0⟩

/-- An OPEN OUTBOUND feed of port 0. -/
def outFeed (number : BitVec 16) (set : FlagSet 32) (lead : Option PathSlot) : Feed :=
  ⟨true, .outbound, number, { OutFields.closed with pathSet := set, lead := lead }, .closed⟩

/-- An OPEN INBOUND feed with a window of 16. -/
def inFeed (number : BitVec 16) (mask : FlagSet 4) (x : SeqWindow) : Feed :=
  ⟨true, .inbound, number, .closed, { InFields.closed with mask := mask, window := x }⟩

/-- A live window of 16 with every flag seen. -/
def liveWindow (high : Seq) : SeqWindow := ⟨true, high, 0xFFFF, 0⟩

/-- The context of path 3's sounding in 2.5. -/
def context3 : Context := ⟨3, 1, 40, 811, some 25000000, some 1000000000, some 1025000000⟩

/-- A working part: path 3 IN SERVICE on L1, path 5 IN SERVICE on L4, path 2 in TRIAL on L0, path 6 HELD on L5, path 7 WITHDRAWING on L4 with a frame in transmission; OUTBOUND feed 9 in
slot 0 led by path 3, OUTBOUND feed 10 in slot 2, INBOUND feed 21 in slot 1; path 3's sounding departed in context 0. -/
def scene : State :=
  { idle with
    paths := ((((idle.paths.set 3 (aPath .inService .valid 1 40 53428800 3200)).set 5 (aPath .inService .valid 4 41 78592000 800)).set 2
      (aPath .trial .empty 0 42 0 0)).set 6 (aPath .held .valid 5 43 78880000 480)).set 7 { aPath .withdrawing .valid 4 44 1 1 with queued := 1 }
    lines := ((((idle.lines.set 0 { LinePort.reset with grade := 6, presence := true, timer := some 2000 }).set 1
      { LinePort.reset with grade := 5, presence := true, timer := some 900 }).set 4
      { LinePort.reset with
        grade := 7
        lock := true
        tx := some ⟨.traffic .normal (aFrame 4 44 .normal 1), 1, 512, 0, []⟩ }).set 5 { LinePort.reset with grade := 7, lock := true })
    freeCells := 4095
    feeds := ((idle.feeds.set 0 (outFeed 9 0x68 (some 3))).set 1 (inFeed 21 0b0010 (liveWindow 100))).set 2 (outFeed 10 0x20 none)
    su := { SoundingUnit.reset with contexts := SoundingUnit.reset.contexts.set 0 (some context3), nextDue := SoundingUnit.reset.nextDue.set 2 (some 2) }
    tb := { TimeBase.reset with time := 1006684700 }
    presentPin := 0b0011
    lockPin := 0b11
    window := some ⟨10, 10⟩
    clock := 1000
    nextMs := 1000 }

/-- The scene with paths 2 and 3 due; `taken` of the contexts occupied. -/
def dueScene (taken : Nat) (waiting : FlagSet 32) : State :=
  { scene with su := { scene.su with
      due := 0xC
      waiting := waiting
      contexts := scene.su.contexts.mapIdx fun c x => if c.val < taken then some context3 else x } }

/-! ### WellFormed refuses an ill-formed term for each of its checks -/

theorem test_wellformed_time_set_now_refuses_mode_at_pps : (Instr.timeSetNow [1, 0]).wellFormed = false := by decide
theorem test_wellformed_time_set_at_pps_refuses_mode_now : (Instr.timeSetAtPps [0, 0]).wellFormed = false := by decide
theorem test_wellformed_feed_frame_refuses_a_short_header : (Instr.feedFrame 0 .lastByte [1, 2]).wellFormed = false := by decide
theorem test_wellformed_first_byte_refuses_bytes : (Instr.localFrame 0 .firstByte [1]).wellFormed = false := by decide
theorem test_wellformed_sound_frame_refuses_an_echo : (Instr.soundFrame 0 .lastByte (echoFrameBytes 1 1 false 0)).wellFormed = false := by decide +kernel
theorem test_wellformed_echo_frame_refuses_a_sound : (Instr.echoFrame 0 .lastByte (soundFrameBytes 1 1)).wellFormed = false := by decide +kernel
theorem test_wellformed_modem_status_refuses_no_bytes : (Instr.modemStatusFrame 0 .lastByte []).wellFormed = false := by decide
theorem test_wellformed_bad_kind_refuses_a_good_kind : (Instr.badKindFrame 0 .lastByte (soundFrameBytes 1 1)).wellFormed = false := by decide +kernel
theorem test_wellformed_unknown_refuses_a_catalogue_code : (Instr.unknownCommand 0x54 []).wellFormed = false := by decide
theorem test_wellformed_core_tick_refuses_none : (Instr.coreTick 0).wellFormed = false := by decide
theorem test_wellformed_takes_a_status_frame : (Instr.modemStatusFrame 0 .lastByte [4, 0x85, 0, 0, 0, 0, 0, 0]).wellFormed = true := by decide

/-! ### The command port (11.8, R164, R168) -/

/-- 11.8: READ-STATUS shows 80h on an IDLE engine with an empty buffer. -/
theorem test_status_idle : (after (.readStatus false) idle).cmp.miso = [0x80] := by decide +kernel

/-- 11.8: PATH-HOLD 12h 03h is taken under 80h, and READ-RESPONSE while WORKING returns NOTHING under 90h. -/
theorem test_path_hold_then_read_while_working :
    (after (.pathHold [3]) scene).cmp.miso = [0x80, 0]
      ∧ (after (.readResponse 4) (after (.pathHold [3]) scene)).cmp.miso = [0x90, 0x01, 0x08, 0x00, 0x00] := by decide +kernel

/-- 11.8: the collected response is 12h 00h 00h 00h under 88h, and the buffer is empty after it. -/
theorem test_read_response :
    let s := { idle with cmp := { idle.cmp with buffer := some ⟨0x12, .done, []⟩ } }
    (after (.readResponse 4) s).cmp.miso = [0x88, 0x12, 0x00, 0x00, 0x00] ∧ (after (.readResponse 4) s).cmp.buffer = none := by decide +kernel

/-- 11.8: PATH-HOLD of three bytes is MALFORMED, and slot 3 stays IN SERVICE. -/
theorem test_path_hold_malformed :
    answer (after (.pathHold [3, 0]) scene) = some (.malformed, []) ∧ ((after (.pathHold [3, 0]) scene).paths.get 3).life = .inService := by decide +kernel

/-- R163: the first byte names the transaction: 12h is PATH-HOLD, 00h READ-STATUS for each byte, 01h READ-RESPONSE, 41h TIME-SET by its mode, 05h none of the catalogue. -/
theorem test_transaction_of_first_byte :
    transactionOf 0x12 [3] = [.pathHold [3]] ∧ transactionOf 0x00 [0] = [.readStatus false, .readStatus true] ∧ transactionOf 0x01 [0, 0] = [.readResponse 2]
      ∧ transactionOf 0x41 [1] = [.timeSetAtPps [1]] ∧ transactionOf 0x05 [] = [.unknownCommand 0x05 []] := by decide

/-- R163: RESET_N falls in a READ-RESPONSE of three bytes so far: the response is gone from the buffer, and reset holds the engine. -/
theorem test_reset_inside_a_transaction :
    let s := { idle with cmp := { idle.cmp with buffer := some ⟨0x12, .done, []⟩ } }
    let t := after (.hardwareReset (.low [0x01, 0, 0])) s
    t.cmp.buffer = none ∧ t.cmp.engine = .held ∧ t.statusByte = 0 := by decide +kernel

/-- R173: IDENT-READ begins with the vendor code 4856h and the part code 0316h. -/
theorem test_ident_read : ((answer (after (.identRead [0]) idle)).map fun r => (r.1, r.2.take 4)) = some (.done, [0x48, 0x56, 0x03, 0x16]) := by decide +kernel

/-- R27: SEED with 0 loads ACE1h and answers ADJUSTED. -/
theorem test_seed_zero : answer (after (.seed [0, 0]) idle) = some (.adjusted, [0xAC, 0xE1]) := by decide +kernel

/-! ### Paths (1.6) -/

/-- 1.6: PATH-ADD ANY on L2, tag 17, nominal 3,100,000, k 9, with slots 0 to 3 in use, is ADJUSTED into slot 4 with k 7. -/
theorem test_path_add_any :
    let p (tag : BitVec 12) : Path := aPath .trial .empty 0 tag 0 0
    let s := { idle with paths := (((idle.paths.set 0 (p 1)).set 1 (p 2)).set 2 (p 3)).set 3 (p 4) }
    let t := after (.pathAdd ([0xFF, 2, 0, 17] ++ beBytes 4 3100000 ++ [0b10] ++ [0, 0, 0, 0] ++ [9] ++ List.replicate 7 0)) s
    answer t = some (.adjusted, [4]) ∧ (t.paths.get 4).tuning = ⟨3100000, 0, 7, 50000, 20, 0⟩ := by decide +kernel

/-- 1.6: PATH-RETIRE of feed 9's lead with frames queued: WITHDRAWING, out of the path set, lead absent, one notice PATH GONE. -/
theorem test_path_retire :
    let t := after (.pathRetire [3]) { scene with paths := scene.paths.modify 3 fun p => { p with queued := 3 } }
    (t.paths.get 3).life = .withdrawing ∧ (t.feeds.get 0).out.pathSet = 0x60 ∧ (t.feeds.get 0).out.lead = none
      ∧ t.nu.latch = some ⟨0, 9, some 3, none, .pathGone, 1006684700⟩ := by decide +kernel

/-- 1.6: PATH-ADD of the identity of a WITHDRAWING path is IN-USE. -/
theorem test_path_add_identity_in_use :
    answer (after (.pathAdd ([0xFF, 4, 0, 44] ++ beBytes 4 3100000 ++ List.replicate 13 0)) scene) = some (.inUse, []) := by decide +kernel

/-! ### Soundings (2.2, 2.5) -/

/-- 2.2: the first draw after reset is E270h, and the jitter of a 20 ms interval 445 µs; the second 7138h and 1,473 µs. -/
theorem test_jitter :
    jitterNext 0xACE1 = 0xE270 ∧ jitterMicros 0xE270 20 = 445 ∧ jitterNext 0xE270 = 0x7138 ∧ jitterMicros 0x7138 20 = 1473 := by decide +kernel

/-- 2.2: a path issued at core time 0 is next due at 20.445 ms, and its SOUND takes id 0 and starts at once. -/
theorem test_sounding_due :
    let s := { scene with su := { scene.su with nextDue := scene.su.nextDue.set 2 (some 0) }, clock := 0 }
    let t := after (.soundingDue 2) s
    t.su.nextDue.get 2 = some 20445 ∧ t.su.contexts.get 1 = some ⟨2, 0, 42, 0, some 25000000, some 1006684700, some 1031684700⟩
      ∧ ((t.lines.get 0).tx.map (·.item)) = some (.sound 42 0) := by decide +kernel

/-- R28: with one context free, a waiting member of a higher slot is issued before a due path of a lower slot that is no member, which is deferred and counted. -/
theorem test_members_go_first :
    let s := dueScene 15 (8 : FlagSet 32)
    let t := s.serve
    t.su.due.mem 3 = false ∧ t.su.waiting.mem 3 = false ∧ t.su.due.mem 2 = true ∧ t.su.waiting.mem 2 = true
      ∧ (t.paths.get 2).counters.soundingsDeferred = 1 ∧ (t.paths.get 3).counters.soundingsDeferred = 0 := by decide +kernel

/-- 2.5 and 3.4: the ECHO of sounding 811 gives S′ = 3,339,900, and path 3 ends with E = 53,430,000 and J = 3,600. -/
theorem test_echo :
    let t := after (.echoFrame 1 .lastByte (echoFrameBytes 40 811 false 4500)) scene
    (t.paths.get 3).e = 53430000 ∧ (t.paths.get 3).j = 3600 ∧ (t.paths.get 3).counters.echoesGood = 1 ∧ t.su.contexts.get 0 = none
      ∧ (t.paths.get 3).weather.goodResults = 1 := by decide +kernel

/-- R33: an ECHO that matches no departed context counts STRAY, its tag being another path's. -/
theorem test_echo_stray :
    ((after (.echoFrame 1 .lastByte (echoFrameBytes 41 811 false 4500)) scene).lines.get 1).counters.stray = 1 := by decide +kernel

/-- R38: a SOUND on an IDLE line is answered at once by an ECHO of residence 0. -/
theorem test_sound :
    ((after (.soundFrame 1 .lastByte (soundFrameBytes 40 9)) scene).lines.get 1).tx.map (·.item) = some (.echo 40 9 false 0) := by decide +kernel

/-- R26: with two contexts free for two due paths they are issued by slot, though only the higher one is a member of the waiting list: path 2 takes context 14 and id 0, path 3
context 15 and id 1. -/
theorem test_enough_contexts_go_by_slot :
    let t := (dueScene 14 (8 : FlagSet 32)).serve
    ((t.su.contexts.get 14).map fun x => (x.path, x.id)) = some (2, 0) ∧ ((t.su.contexts.get 15).map fun x => (x.path, x.id)) = some (3, 1)
      ∧ t.su.due = 0 ∧ t.su.waiting = 0 := by decide +kernel

/-- R38, R148: T2 is taken at the first byte: a SOUND that begins at 1,006,684,700 and ends 853 ns later is answered with residence 853. -/
theorem test_sound_stamped_at_its_first_byte :
    let s := after (.soundFrame 1 .firstByte []) scene
    ((after (.soundFrame 1 .lastByte (soundFrameBytes 40 9)) { s with tb := { s.tb with time := 1006685553 } }).lines.get 1).tx.map (·.item)
      = some (.echo 40 9 false 853) := by decide +kernel

/-- R31: one ns past its deadline a context is lost, and counted. -/
theorem test_sounding_lost :
    let at1 := { scene with tb := { scene.tb with time := 1025000000 } }
    let at2 := { scene with tb := { scene.tb with time := 1025000001 } }
    after (.soundingLost 0) at1 = at1 ∧ ((after (.soundingLost 0) at2).paths.get 3).counters.soundingsLost = 1 := by decide +kernel

/-! ### Estimates (3.5 to 3.9) -/

/-- Path 2 of 3.5, at its run. -/
def path2 (run : OutlierRun) : Path := { aPath .inService .valid 0 1 40000000 4800 with outlierRun := run }

/-- 3.5: the third outlier ABOVE in a row reseeds. -/
theorem test_reseed :
    let p := ((path2 (.two .above)).takeResult .reset (.valid 2620300)).path
    p.e = 41924800 ∧ p.j = 0 ∧ p.outlierRun = .none ∧ p.counters.reseeds = 1 ∧ p.counters.outliers = 1 := by decide +kernel

/-- 3.5: an outlier BELOW restarts a run that stood ABOVE, and one within the bound is applied. -/
theorem test_outlier_side :
    ((path2 (.two .above)).takeResult .reset (.valid 2400000)).path.outlierRun = .one .below
      ∧ ((path2 (.one .above)).takeResult .reset (.valid 2530000)).path = { path2 .none with e := 40060000, j := 34500 } := by decide +kernel

/-- 3.6: differences smaller than their divisors move neither E nor J. -/
theorem test_small_difference :
    let p := ((aPath .inService .valid 4 1 53429767 14).takeResult .reset (.valid 3339360)).path
    p.e = 53429767 ∧ p.j = 14 := by decide +kernel

/-- 3.7: the jitter clamp, and the third good result qualifies. -/
theorem test_jitter_clamp :
    let p : Path := { aPath .trial .valid 0 1 240000000 10000000 with goodCount := 2, tuning := ⟨10000000, 0, 0, 50000, 20, 0⟩ }
    let r := p.takeResult { Settings.reset with trialCount := 3, trialTolerance := 5000000 } (.valid 5000000)
    r.path.e = 80000000 ∧ r.path.j = 16000000 ∧ r.path.life = .inService ∧ r.raised = some .qualified := by decide +kernel

/-- The state of 3.9: path 3 MARGINAL on L1 with 6 cells in URGENT and 34 in NORMAL, path 5 CLEAR. -/
def costScene : State :=
  { scene with
    paths := (scene.paths.modify 3 fun p => { p with e := 53430000, j := 3600, weather := { p.weather with state := .marginal } }).modify 5 fun p =>
      { p with e := 78592000, j := 800 }
    lines := (scene.lines.modify 1 fun l => { l with urgent := [aFrame 1 40 .urgent 6], normal := [aFrame 1 40 .normal 34] }).modify 4 fun l => { l with tx := none } }

/-- 3.9: path 3 costs 3,473,720 for NORMAL and 3,444,718 for URGENT, path 5 4,912,050. -/
theorem test_cost : costScene.cost .normal 3 = 3473720 ∧ costScene.cost .urgent 3 = 3444718 ∧ costScene.cost .normal 5 = 4912050 := by decide +kernel

/-- 3.9: RANK-READ lists path 3 at 3,473,720 and then path 5 at 4,912,050. -/
theorem test_rank_read :
    answer (after (.rankRead [0, 0]) costScene)
      = some (.done, [2, 3, 0x00, 0x35, 0x01, 0x38, 5, 0x00, 0x4A, 0xF3, 0xB2, 3, 255]) := by decide +kernel

/-! ### Weather and carrier (4.2, 4.7) -/

/-- Path 3 at the close of a window of 4.7 with these counts. -/
def rain (w : Weather) (run : BitVec 8) (good errored results lost : BitVec 16) (grade : Fin 8) : Path :=
  { aPath .inService .valid 1 40 0 0 with weather := ⟨w, good, errored, results, lost, grade, run⟩ }

/-- 4.7: windows 2, 4, 5, 7, 8 and 9. -/
theorem test_weather_moves :
    (rain .clear 0 205 2 0 0 4).weatherMove .reset = (.marginal, 0, none)
      ∧ (rain .marginal 0 207 0 0 0 3).weatherMove .reset = (.marginal, 1, none)
      ∧ (rain .marginal 1 150 6 0 1 2).weatherMove .reset = (.faded, 0, some .faded)
      ∧ (rain .faded 0 0 0 1 0 3).weatherMove .reset = (.mending, 1, none)
      ∧ (rain .mending 1 0 0 0 0 3).weatherMove .reset = (.mending, 1, none)
      ∧ (rain .mending 1 0 1 1 0 4).weatherMove .reset = (.faded, 0, some .faded) := by decide +kernel

/-- 4.7: at the 20th CLEAN window path 3 is CLEAR, and PATH CLEARED is raised. -/
theorem test_window_close :
    let t := after .windowClose { scene with paths := scene.paths.set 3 (rain .mending 19 0 0 1 0 5) }
    (t.paths.get 3).weather = ⟨.clear, 0, 0, 0, 0, 5, 0⟩ ∧ (t.nu.pathSets.get 3).mem 3 = true ∧ t.nu.flags.mem 3 = true := by decide +kernel

/-- A MODEM STATUS frame. -/
def statusFrame (first : Byte) : List Byte := withHeaderCheck [0x04, first, 0, 0, 0, 0]

/-- 4.2: a report of grade 0 on a line with carrier is LINE DOWN, and arms the timer for 5 ms. -/
theorem test_modem_status_grade_0 :
    let t := after (.modemStatusFrame 1 .lastByte (statusFrame 0x80)) scene
    (t.lines.get 1).grade = 0 ∧ (t.lines.get 1).timer = some 2001000 ∧ (t.lines.get 1).counters.carrierLosses = 1 ∧ (t.nu.lineSets.get 0).mem 1 = true
      ∧ (t.paths.get 3).est = .stale ∧ (t.paths.get 3).weather.state = .faded ∧ t.su.contexts.get 0 = none := by decide +kernel

/-- 4.2: the timer's expiry counts STATUS TIMEOUTS and CARRIER LOSSES, and idles it. -/
theorem test_status_timer_expiry :
    let t := after (.statusTimerExpiry 1) scene
    (t.lines.get 1).timer = none ∧ (t.lines.get 1).counters.statusTimeouts = 1 ∧ (t.lines.get 1).counters.carrierLosses = 1 := by decide +kernel

/-- 4.2: with the modem removed a report is STATUS DISCARDED. -/
theorem test_modem_removed :
    let t := after (.presentNInactive 1) scene
    (t.nu.lineSets.get 2).mem 1 = true ∧ (t.lines.get 1).timer = none
      ∧ ((after (.modemStatusFrame 1 .lastByte (statusFrame 0x86)) t).lines.get 1).counters.statusDiscarded = 1 := by decide +kernel

/-- R62: a modem fitted raises MODEM CHANGE, and carrier stays LOST. -/
theorem test_modem_fitted :
    let t := after (.presentNActive 2) scene
    (t.lines.get 2).presence = true ∧ (t.nu.lineSets.get 2).mem 2 = true ∧ (t.lines.get 2).grade = 0 := by decide +kernel

/-- R63: lock gained is LINE UP at grade 7, lock lost LINE DOWN. -/
theorem test_lock :
    let t := after (.lockLost 1) scene
    (t.lines.get 5).grade = 0 ∧ (t.nu.lineSets.get 0).mem 5 = true
      ∧ ((after (.lockGained 1) t).lines.get 5).grade = 7 ∧ ((after (.lockGained 1) t).nu.lineSets.get 1).mem 5 = true := by decide +kernel

/-! ### Feeds (5.1, 5.2, 5.5) -/

/-- 5.1: with slots 4, 17 and 63 OPEN, FEED-SCAN at cursor 5 answers slot 17 and moves to 18; at 63 it answers 63 and stays. -/
theorem test_feed_scan :
    let s := { idle with feeds := ((idle.feeds.set 4 (outFeed 1 0 none)).set 17 (outFeed 2 0 none)).set 63 (outFeed 3 0 none), scanCursor := 5 }
    answer (after (.feedScan [0]) s) = some (.done, [17, 0, 0, 2]) ∧ (after (.feedScan [0]) s).scanCursor = 18
      ∧ (after (.feedScan [0]) { s with scanCursor := 63 }).scanCursor = 63 := by decide +kernel

/-- 5.2: with rate limit 2, the frame at count 2 is a RATE DROP and takes no sequence; the one at count 1 takes 501. -/
theorem test_rate_guard :
    let s (n : BitVec 16) := { scene with feeds := scene.feeds.modify 0 fun f => { f with out := { f.out with rateLimit := 2, rateCount := n, nextSeq := 501 } } }
    let t (n : BitVec 16) := ((after (.localFrame 0 .lastByte (localBytes 9 0 1 [7])) (s n)).feeds.get 0).out
    (t 2).counters.rateDrop = 1 ∧ (t 2).nextSeq = 501 ∧ (t 1).counters.accepted = 1 ∧ (t 1).nextSeq = 502 ∧ (t 1).rateCount = 2 := by decide +kernel

/-- 5.5: with path 3 FADED the lead goes from 3 to fibre path 5 as FALLBACK, and the message starts on no radio line. -/
theorem test_fallback :
    let s := { scene with paths := scene.paths.modify 3 fun p => { p with weather := { p.weather with state := .faded } } }
    let t := after (.localFrame 0 .lastByte (localBytes 9 0 1 [7])) s
    (t.feeds.get 0).out.lead = some 5 ∧ t.nu.latch = some ⟨0, 9, some 3, some 5, .fallback, 1006684700⟩ ∧ (t.paths.get 5).queued = 1 := by decide +kernel

/-- R93: with no path eligible and none usable the message is NO PATH, and the lead is cleared with DISTRESS. -/
theorem test_no_path :
    let s := { scene with lines := (scene.lines.modify 1 fun l => { l with grade := 0 }).modify 4 fun l => { l with txEnable := false } }
    let t := after (.localFrame 0 .lastByte (localBytes 9 0 1 [7])) s
    (t.feeds.get 0).out.counters.noPath = 1 ∧ (t.feeds.get 0).out.lead = none ∧ t.nu.latch = some ⟨0, 9, some 3, none, .distress, 1006684700⟩ := by decide +kernel

/-- R79: FEED-OPEN drops a member that is WITHDRAWING, and answers ADJUSTED with the set kept. -/
theorem test_feed_open :
    answer (after (.feedOpen (feedOpenOutBytes 0xFF 77 1 0x88 false 0 0 0 0 0 0)) scene) = some (.adjusted, [3, 0, 0, 0, 8, 255]) := by decide +kernel

/-- R80: FEED-SET that takes the lead out of the set makes it absent with PATH GONE. -/
theorem test_feed_set :
    let t := after (.feedSet [0, 0, 1, 0, 0, 0, 0x20, 1, 255, 0, 0, 0, 0]) scene
    answer t = some (.done, [0, 0, 0, 0x20, 255, 255]) ∧ t.nu.latch = some ⟨0, 9, some 3, none, .pathGone, 1006684700⟩ := by decide +kernel

/-! ### Line queues (6.3, 6.4) -/

/-- The state of 6.3: 200 free cells, 10 cells in L1's URGENT queue. -/
def poolScene : State :=
  { scene with
    freeCells := 200
    lines := (scene.lines.modify 1 fun l => { l with urgent := [aFrame 1 40 .urgent 10] }).modify 4 fun l => { l with tx := none } }

/-- 6.3: reserve held 182; 17 NORMAL cells fit and 19 do not; 17 URGENT cells fit; ISOLATED holds a line to 682. -/
theorem test_admission :
    poolScene.reserveHeld = 182 ∧ poolScene.admits 3 .normal 17 = true ∧ poolScene.admits 3 .normal 19 = false ∧ poolScene.admits 2 .urgent 17 = true
      ∧ (let s := { poolScene with
          settings := { poolScene.settings with share := .isolated }
          lines := poolScene.lines.modify 3 fun l => { l with normal := [aFrame 3 1 .normal 670] } }
        s.admits 3 .normal 17 = false ∧ s.admits 3 .normal 12 = true) := by decide +kernel

/-- 6.4: at 2:1 with the counter at 2 the next frame is NORMAL and the counter 0; at 1 it is URGENT and 2. -/
theorem test_ratio :
    let s (n : Nat) := { scene with lines := scene.lines.modify 1 fun l =>
      { l with ratio := .two, ratioCount := n, urgent := [aFrame 1 40 .urgent 1], normal := [aFrame 1 40 .normal 1] } }
    (((s 2).boundary 1).lines.get 1).normal = [] ∧ (((s 2).boundary 1).lines.get 1).ratioCount = 0
      ∧ (((s 1).boundary 1).lines.get 1).urgent = [] ∧ (((s 1).boundary 1).lines.get 1).ratioCount = 2 := by decide +kernel

/-- R107, R108: one cell at grade 7 takes 512 ns, 205 ticks of 2.5 ns; the WITHDRAWING path's last frame gone, its slot is vacant with PATH WITHDRAWN. -/
theorem test_frame_completion :
    let t := after (.frameCompletion 4) { scene with clock := 205 }
    after (.frameCompletion 4) { scene with clock := 204 } = { scene with clock := 204 }
      ∧ t.paths.get 7 = .vacant ∧ t.freeCells = 4096 ∧ (t.nu.pathSets.get 5).mem 7 = true ∧ (t.lines.get 4).counters.framesSent = 1 := by decide +kernel

/-! ### Arbitration (7.5, 7.6) -/

/-- The window of 7.5 with H = 103 and nothing missing. -/
def window103 : SeqWindow := liveWindow 103

/-- 7.5: 120 is an advance past the window that loses 1; then 103 is too old and 110 a late fill. -/
theorem test_window_past :
    let x := window103.judge 16 .adopt 120
    x.2 = .advanced 1 ∧ x.1.high = 120 ∧ (x.1.judge 16 .adopt 103).2 = .tooOld ∧ (x.1.judge 16 .adopt 110).2 = .lateFill := by decide +kernel

/-- 7.6: the fourth too-old arrival re-bases at 4; 3 is then a duplicate. -/
theorem test_window_restart :
    let x := ({ liveWindow 80000 with tooOldRun := 3 } : SeqWindow).judge 16 .adopt 4
    x.2 = .restarted ∧ x.1.high = 4 ∧ (x.1.judge 16 .adopt 3).2 = .duplicate := by decide +kernel

/-- 7.6: an advance through the wrap. -/
theorem test_window_wrap : ((liveWindow 4294967293).judge 16 .adopt 2).1.high = 2 := by decide +kernel

/-- A FEED frame of feed 21 with tag and sequence, payload 1 2 3. -/
def feed21 (tag : BitVec 12) (sequence : Seq) : List Byte := feedBytes tag 0 0 5 21 sequence 77 3 (payloadCheck [1, 2, 3]) 0 [1, 2, 3]

/-- 9.5, R124 and R133: a FEED frame under path 3's tag counts it good, wins, and stands in P1's FIFO with the stamp of its first byte. -/
theorem test_feed_frame :
    let t := after (.feedFrame 1 .lastByte (feed21 40 101)) { scene with lineArrival := scene.lineArrival.set 1 (some 88) }
    (t.paths.get 3).weather.goodFrames = 1 ∧ (t.paths.get 3).wins = 1 ∧ (t.ports.get 1).fifo = [⟨21, 5, [1, 2, 3], 77, 88, some 3, 1, false⟩]
      ∧ (t.feeds.get 1).inb.counters.delivered = 1 ∧ t.lineArrival.get 1 = none := by decide +kernel

/-- 9.5: a FEED frame cut short counts BAD PAYLOAD and an errored frame; under tag 41 it is delivered with no path. -/
theorem test_feed_frame_short :
    let t := after (.feedFrame 1 .lastByte ((feed21 40 101).take 34)) scene
    (t.lines.get 1).counters.badPayload = 1 ∧ (t.paths.get 3).weather.erroredFrames = 1
      ∧ (((after (.feedFrame 1 .lastByte (feed21 41 101)) scene).ports.get 1).fifo.map (·.path)) = [none] := by decide +kernel

/-- R126: the head leaves the FIFO at the end of its sending. -/
theorem test_local_send_end :
    let s := { scene with ports := scene.ports.set 1 ⟨[⟨21, 5, [1], 7, 8, none, 1, false⟩], .zero⟩ }
    (after (.localSendEnd 1) s).ports.get 1 = ⟨[], { PortCounters.zero with deliveredFrames := 1 }⟩ := by decide +kernel

/-! ### Time (8.2 to 8.5) -/

/-- 8.2: after 1,000 ticks of TIME-SLEW +3,000 TIME has gained 2,501 and the remainder is 2,999; the last correction of -1 raises SLEW DONE. -/
theorem test_core_tick :
    let s := { scene with tb := { scene.tb with time := 0, slew := 3000 } }
    let t := after (.coreTick 1000) s
    let u := after .slewCorrection { scene with tb := { scene.tb with slew := -1, slewTicks := 999 } }
    t.tb.time = 2501 ∧ t.tb.slew = 2999 ∧ u.tb.slew = 0 ∧ u.nu.flags.mem 14 = true := by decide +kernel

/-- 8.4: the edge stamps the record on the old scale, then applies the pending value. -/
theorem test_pps_edge :
    let s := { scene with tb := { scene.tb with time := 7800000004, pendingSet := some ⟨13000000000, 9⟩ } }
    let t := after .ppsEdge s
    t.tb.time = 13000000000 ∧ t.tb.ppsStamp = 7800000004 ∧ t.tb.ppsCount = 1 ∧ t.nu.flags = 0x9000 ∧ t.su.contexts.get 0 = none := by decide +kernel

/-- 8.4: TIME-STEP while a set is pending answers PENDING; at its expiry the set is dropped with TIME SET EXPIRED. -/
theorem test_pending_set :
    let s := { scene with tb := { scene.tb with pendingSet := some ⟨12000000000, 1000⟩ } }
    answer (after (.timeStep (beBytes 4 5000)) s) = some (.pending, []) ∧ (after .timeSetExpiry s).tb.pendingSet = none
      ∧ (after .timeSetExpiry s).nu.flags.mem 13 = true ∧ after .timeSetExpiry { s with clock := 999 } = { s with clock := 999 } := by decide +kernel

/-- 8.4: TIME-STEP +5,000 moves TIME by 5,000 and answers it; held at 0, the offset applied is smaller and the answer ADJUSTED. -/
theorem test_time_step :
    (after (.timeStep (beBytes 4 5000)) scene).tb.time = 1006689700
      ∧ answer (after (.timeStep [0xFF, 0xFF, 0xFF, 0xF6]) { scene with tb := { scene.tb with time := 3 } }) = some (.adjusted, [255, 255, 255, 253]) := by decide +kernel

/-- R19: an estimate of age 250 goes STALE at the next ms tick with PATH STALE, one of age 249 does not. -/
theorem test_ms_tick :
    let t := after .msTick { scene with paths := (scene.paths.modify 3 fun p => { p with age := 250 }).modify 5 fun p => { p with age := 249 } }
    (t.paths.get 3).est = .stale ∧ (t.paths.get 5).est = .valid ∧ t.nu.pathSets.get 4 = 8 ∧ (t.paths.get 5).age = 250 := by decide +kernel

/-! ### Frames (R146, R148) -/

/-- R146: the two checks of the nine bytes 31h to 39h, by the definition of these two checks (preset all ones, no inversion) in general use; not a value of the spec. -/
theorem test_checks :
    let nine : List Byte := [0x31, 0x32, 0x33, 0x34, 0x35, 0x36, 0x37, 0x38, 0x39]
    headerCheck nine = 0x29B1 ∧ payloadCheck nine = 0x0376E6E7 := by decide +kernel

/-- 9.5: kind byte 07h, and an ECHO of 20 bytes, are BAD HEADER. -/
theorem test_bad_header :
    ((after (.badKindFrame 1 .lastByte (0x07 :: List.replicate 40 0)) scene).lines.get 1).counters.badHeader = 1
      ∧ ((after (.echoFrame 1 .lastByte (echoFrameBytes 40 811 false 4500 ++ [0, 0, 0, 0])) scene).lines.get 1).counters.badHeader = 1 := by decide +kernel

/-- 9.5: with receive off a SOUND counts RX OFF. -/
theorem test_rx_off :
    let s := after (.lineSet [1, 0b010, 0, 0, 0]) scene
    ((after (.soundFrame 1 .lastByte (soundFrameBytes 40 9)) s).lines.get 1).counters.rxOff = 1 := by decide +kernel

/-! ### Notices and resets (10.4, 11.4) -/

/-- The notice unit of 10.4 after its third row. -/
def notices : NoticeUnit :=
  { NoticeUnit.clear (BitVec.twoPow 18 17) with latch := some ⟨7, 307, some 3, some 1, .lost, 5000100⟩, queued := 0b100 }

/-- 10.4: a further notice of feed 7 keeps the old lead of the record in the latch. -/
theorem test_notice_folds :
    (notices.take ⟨7, 307, some 1, some 5, .fallback, 5030900⟩).latch = some ⟨7, 307, some 3, some 5, .fallback, 5030900⟩ := by decide +kernel

/-- 10.4: NOTICE-CLEAR refills the latch from feed 2 as DEFERRED, and the next one leaves it EMPTY with INT_N released. -/
theorem test_notice_clear :
    let s := { idle with nu := notices, tb := { idle.tb with time := 6000000 }, feeds := idle.feeds.set 2 (outFeed 202 0x20 (some 5)) }
    let t := after (.noticeClear []) s
    t.nu.latch = some ⟨2, 202, none, some 5, .deferred, 6000000⟩ ∧ t.nu.queued = 0 ∧ t.intAsserted = true
      ∧ (after (.noticeClear []) (engineIn .idle t)).intAsserted = false := by decide +kernel

/-- R174: SOFT-RESET keeps a path's identity and tuning with an EMPTY estimate, and its end answers DONE with SOFT RESET DONE. -/
theorem test_soft_reset :
    let t := after (.softReset []) scene
    let u := after .endOfWalk t
    t.cmp.engine = .walking ∧ (t.paths.get 3).tag = 40 ∧ (t.paths.get 3).est = .empty ∧ (t.paths.get 7).life = .vacant
      ∧ u.cmp.buffer = some ⟨0x03, .done, []⟩ ∧ u.nu.flags.mem 16 = true := by decide +kernel

/-- R176: RESET_N low releases INT_N, shows status 00h and returns every unit to reset values. -/
theorem test_hardware_reset :
    let t := after (.hardwareReset (.low [])) scene
    t.statusByte = 0 ∧ t.paths = State.reset.paths ∧ t.tb = .reset ∧ (after (.hardwareReset .high) t).cmp.engine = .initialising := by decide +kernel

/-- R76: the end of initialisation samples presence and lock without an event. -/
theorem test_initialisation_end :
    let t := after .initialisationEnd { State.reset with presentPin := 1, lockPin := 2 }
    (t.lines.get 0).presence = true ∧ (t.lines.get 5).grade = 7 ∧ (t.lines.get 4).grade = 0 ∧ t.nu.flags = 0 := by decide +kernel


/-! ### Witnesses: for each statement with hypotheses, a state and operands that meet them, at the boundaries of their ranges -/

/-- Every slot of the path table outside VACANT. -/
def fullPaths : State := { scene with paths := scene.paths.map fun p => if p.life = .vacant then { p with life := .trial } else p }

/-- Every feed slot OPEN. -/
def fullFeeds : State := { scene with feeds := scene.feeds.map fun f => if f.opened then f else { f with opened := true, number := 500 } }

/-- The scene with the engine in work. -/
def working : State := engineIn (.working ⟨0x12, .done, []⟩) scene

theorem witness_StepRunsTheFrontCommand : State.reset.pending = [] := by decide

theorem witness_ReadStatusShiftsTheStatusByte :
    ({ idle with cmp := ⟨.idle, none, [], true⟩ } : State).cmp.statusOpen = true ∧ (engineIn .held idle).cmp.engine = .held ∧ idle.cmp.engine ≠ .held
      ∧ idle.cmp.engine = .idle ∧ working.cmp.engine = .working ⟨0x12, .done, []⟩ ∧ (engineIn .walking idle).cmp.engine = .walking
      ∧ State.reset.cmp.engine = .initialising := by decide +kernel

theorem witness_ResponseIsWrittenAndCollected :
    working.cmp.engine = .working ⟨0x12, .done, []⟩ ∧ working.cmp.engine ≠ .held ∧ working.cmp.buffer = none
      ∧ ({ idle with cmp := ⟨.idle, some ⟨0x12, .done, []⟩, [], false⟩ } : State).cmp.buffer = some ⟨0x12, .done, []⟩ := by decide +kernel

theorem witness_RequestIsNotTakenUnlessIdle : (Instr.seed [0, 0]).asRequest = some (0x04, [0, 0]) ∧ working.cmp.engine ≠ .idle := by decide +kernel

theorem witness_RequestOfAnotherLengthIsMalformed :
    (Instr.seed [0]).asRequest = some (0x04, [0]) ∧ scene.cmp.engine = .idle ∧ ([0] : List Byte).length + 1 ∉ requestLengths 0x04
      ∧ (Instr.unknownCommand 0x05 []).asRequest = some (0x05, []) ∧ ([] : List Byte).length + 1 ∉ requestLengths 0x05 := by decide +kernel

theorem witness_PathAddEntersTrial :
    scene.cmp.engine = .idle ∧ (∀ m : PathSlot, (scene.paths.get m).life ≠ .vacant → ¬ ((scene.paths.get m).line = 5 ∧ (scene.paths.get m).tag = 4095))
      ∧ (scene.paths.get 31).life = .vacant ∧ (31 : Byte) = byteOf (31 : PathSlot).val
      ∧ (scene.paths.get 0).life = .vacant ∧ (∀ m : PathSlot, m < 0 → (scene.paths.get m).life ≠ .vacant) := by decide +kernel

theorem witness_PathCommandsRefuse :
    scene.cmp.engine = .idle ∧ (List.replicate 17 (0 : Byte)).length = 17
      ∧ (31 < (32 : Byte).toNat ∧ (32 : Byte) ≠ 0xFF) ∧ 5 < (6 : Byte).toNat ∧ 4095 < (4096 : BitVec 16).toNat
      ∧ ((31 : Byte).toNat ≤ 31 ∧ (5 : Byte).toNat ≤ 5 ∧ (4095 : BitVec 16).toNat ≤ 4095)
      ∧ (∃ m : PathSlot, (scene.paths.get m).life ≠ .vacant ∧ (scene.paths.get m).line.val = (4 : Byte).toNat ∧ (scene.paths.get m).tag.toNat = (44 : BitVec 16).toNat)
      ∧ (∀ m : PathSlot, (fullPaths.paths.get m).life ≠ .vacant → ¬ ((fullPaths.paths.get m).line.val = 5 ∧ (fullPaths.paths.get m).tag.toNat = 4095))
      ∧ (∀ m : PathSlot, (fullPaths.paths.get m).life ≠ .vacant) ∧ (3 : Byte) = byteOf (3 : PathSlot).val ∧ fullPaths.cmp.engine = .idle
      ∧ (scene.paths.get 31).life = .vacant ∧ (31 : Byte) = byteOf (31 : PathSlot).val
      ∧ ((scene.paths.get 7).life ≠ .vacant ∧ (scene.paths.get 7).life ∉ [Lifecycle.trial, .inService, .held])
      ∧ (scene.paths.get 6).life ∉ [Lifecycle.inService] ∧ (scene.paths.get 3).life ∉ [Lifecycle.held] ∧ (scene.paths.get 2).life ∉ [Lifecycle.inService, .held] := by
  decide +kernel

theorem witness_PathSetWritesTheCarriedFields :
    scene.cmp.engine = .idle ∧ (scene.paths.get 2).measured = true ∧ (scene.paths.get 3).measured = true ∧ (scene.paths.get 6).measured = true := by decide +kernel

theorem witness_LifecycleCommandsMoveThePath :
    scene.cmp.engine = .idle ∧ (scene.paths.get 3).life = .inService ∧ (scene.paths.get 6).life = .held := by decide +kernel

theorem witness_PathRetireWithdrawsThePath :
    scene.cmp.engine = .idle ∧ (scene.paths.get 3).measured = true ∧ (scene.paths.get 3).queued = 0
      ∧ (({ scene with paths := scene.paths.modify 3 fun p => { p with queued := 3 } } : State).paths.get 3).queued ≠ 0
      ∧ ((scene.feeds.get 0).opened = true ∧ (scene.feeds.get 0).direction = .outbound ∧ (scene.feeds.get 0).out.lead = some 3)
      ∧ (scene.su.contexts.get 0 = some context3 ∧ context3.path = 3 ∧ context3.path ≠ 5) ∧ (scene.paths.get 5).measured = true
      ∧ scene.su.due.mem (5 : PathSlot).val = false := by decide +kernel

theorem scene_identities : scene.IdentitiesUnique := by unfold State.IdentitiesUnique; decide +kernel

theorem scene_numbers : scene.NumbersUnique := by unfold State.NumbersUnique; decide +kernel

theorem witness_ReadsReturnTheRecordAndClear :
    scene.cmp.engine = .idle ∧ scene.NumbersUnique ∧ scene.IdentitiesUnique
      ∧ ((21 : BitVec 16) ≠ 0 ∧ (scene.feeds.get 1).opened = true ∧ (scene.feeds.get 1).direction = .inbound ∧ (scene.feeds.get 1).number = 21)
      ∧ (∀ k : FeedSlot, ¬ ((scene.feeds.get k).opened = true ∧ (scene.feeds.get k).direction = .outbound ∧ (scene.feeds.get k).number = 21))
      ∧ ((5 < (6 : Byte).toNat ∧ (6 : Byte).toNat < 16) ∧ (5 < (15 : Byte).toNat ∧ (15 : Byte).toNat < 16) ∧ 19 < (20 : Byte).toNat)
      ∧ (5 < (6 : Byte).toNat ∧ 4095 < (4096 : BitVec 16).toNat) ∧ ((5 : Byte).toNat ≤ 5 ∧ (43 : BitVec 16).toNat ≤ 4095)
      ∧ ((scene.paths.get 6).life ≠ .vacant ∧ (scene.paths.get 6).line.val = (5 : Byte).toNat ∧ (scene.paths.get 6).tag.toNat = (43 : BitVec 16).toNat)
      ∧ (∀ i : PathSlot, (scene.paths.get i).life ≠ .vacant → ¬ ((scene.paths.get i).line.val = 5 ∧ (scene.paths.get i).tag.toNat = 4095)) :=
  ⟨by decide +kernel, scene_numbers, scene_identities, by decide +kernel⟩

theorem witness_FeedOpenOpensTheSlot :
    scene.cmp.engine = .idle ∧ (1 : BitVec 16) ≠ 0
      ∧ (∀ m : FeedSlot, (scene.feeds.get m).opened = true → ¬ ((scene.feeds.get m).direction = .outbound ∧ (scene.feeds.get m).number = 1))
      ∧ (∀ m : FeedSlot, (scene.feeds.get m).opened = true → ¬ ((scene.feeds.get m).direction = .inbound ∧ (scene.feeds.get m).number = 1))
      ∧ ((scene.feeds.get 63).opened = false ∧ (63 : Byte) = byteOf (63 : FeedSlot).val)
      ∧ ((scene.feeds.get 3).opened = false ∧ ∀ m : FeedSlot, m < 3 → (scene.feeds.get m).opened = true)
      ∧ (∀ i : PathSlot, (0x0C : FlagSet 32).mem i.val = true ↔ (0x8D : FlagSet 32).mem i.val = true ∧ (scene.paths.get i).measured = true)
      ∧ (if (0x1F : Byte).getLsbD 0 then (3 : Byte) = slotByteOf (some 3) else some (3 : PathSlot) = none)
      ∧ (if (0x1F : Byte).getLsbD 2 then (1 : Byte) = Urgency.urgent.byte else Urgency.urgent = .normal)
      ∧ (if (0x1F : Byte).getLsbD 3 then (0 : Byte) = Urgency.normal.byte else Urgency.normal = .urgent)
      ∧ (if (0 : Byte).getLsbD 0 then (9 : Byte) = slotByteOf none else (none : Option PathSlot) = none)
      ∧ (0xF1 : Byte).setWidth 4 ≠ (0 : BitVec 4) := by decide +kernel

theorem witness_FeedCommandsRefuse :
    scene.cmp.engine = .idle ∧ ((63 < (64 : Byte).toNat ∧ (64 : Byte) ≠ 0xFF) ∧ (0xF0 : Byte).setWidth 4 = 0#4 ∧ (3 : Byte).toNat < 4 ∧ 8 < (9 : Byte).toNat ∧ 1 < (2 : Byte).toNat)
      ∧ ((63 : Byte).toNat ≤ 63 ∧ (21 : BitVec 16) ≠ 0 ∧ (8 : Byte).setWidth 4 ≠ 0#4 ∧ 4 ≤ (4 : Byte).toNat ∧ (8 : Byte).toNat ≤ 8 ∧ (1 : Byte).toNat ≤ 1)
      ∧ (∃ m : FeedSlot, (scene.feeds.get m).opened = true ∧ (scene.feeds.get m).direction = .inbound ∧ (scene.feeds.get m).number = 21)
      ∧ (∀ m : FeedSlot, (fullFeeds.feeds.get m).opened = true → ¬ ((fullFeeds.feeds.get m).direction = .inbound ∧ (fullFeeds.feeds.get m).number = 9))
      ∧ (∀ m : FeedSlot, (fullFeeds.feeds.get m).opened = true) ∧ (63 : Byte) = byteOf (63 : FeedSlot).val ∧ (scene.feeds.get 63).opened = false
      ∧ ((scene.feeds.get 1).opened = true ∧ (scene.feeds.get 1).direction = .inbound)
      ∧ ((scene.feeds.get 0).opened = true ∧ (scene.feeds.get 0).direction = .outbound)
      ∧ (3 < (4 : Byte).toNat ∧ ((3 : Byte) ≠ 1 ∧ (3 : Byte) ≠ 2) ∧ ((1 : Byte).getLsbD 0 = true ∧ 31 < (32 : Byte).toNat ∧ (32 : Byte) ≠ 0xFF)
        ∧ ((4 : Byte).getLsbD 2 = true ∧ (8 : Byte).getLsbD 3 = true ∧ 1 < (2 : Byte).toNat))
      ∧ ¬ ((63 < (63 : Byte).toNat ∧ (63 : Byte) ≠ 0xFF) ∨ (9 : BitVec 16) = 0 ∨ 3 < (3 : Byte).toNat ∨ ((2 : Byte) ≠ 1 ∧ (2 : Byte) ≠ 2)
        ∨ ((0xF : Byte).getLsbD 0 = true ∧ 31 < (0xFF : Byte).toNat ∧ (0xFF : Byte) ≠ 0xFF) ∨ ((0xF : Byte).getLsbD 2 = true ∧ 1 < (1 : Byte).toNat)
        ∨ ((0xF : Byte).getLsbD 3 = true ∧ 1 < (1 : Byte).toNat))
      ∧ (∃ m : FeedSlot, (scene.feeds.get m).opened = true ∧ (scene.feeds.get m).direction = .outbound ∧ (scene.feeds.get m).number = 9)
      ∧ (∀ m : FeedSlot, (fullFeeds.feeds.get m).opened = true → ¬ ((fullFeeds.feeds.get m).direction = .outbound ∧ (fullFeeds.feeds.get m).number = 21))
      ∧ ¬ (63 < (63 : Byte).toNat ∨ ((0x3F : Byte).getLsbD 1 = true ∧ (1 : Byte) ≠ 1 ∧ (1 : Byte) ≠ 2)
        ∨ ((0x3F : Byte).getLsbD 2 = true ∧ 31 < (31 : Byte).toNat ∧ (31 : Byte) ≠ 0xFF) ∨ ((0x3F : Byte).getLsbD 4 = true ∧ 1 < (1 : Byte).toNat)
        ∨ ((0x3F : Byte).getLsbD 5 = true ∧ 1 < (1 : Byte).toNat))
      ∧ (1 : Byte) = byteOf (1 : FeedSlot).val ∧ fullFeeds.cmp.engine = .idle := by
  refine ⟨?_, ?_, ?_, ?_, ?_, ?_, ?_, ?_, ?_, ?_, ?_, ?_, ?_, ?_, ?_, ?_, ?_⟩ <;> decide +kernel

theorem witness_FeedSetWritesTheCarriedFields :
    scene.cmp.engine = .idle ∧ ((scene.feeds.get 1).opened = true ∧ (scene.feeds.get 1).direction = .inbound ∧ (8 : Byte).setWidth 4 ≠ (0 : BitVec 4))
      ∧ ((scene.feeds.get 0).opened = true ∧ (scene.feeds.get 0).direction = .outbound)
      ∧ (∀ i : PathSlot, (0x20 : FlagSet 32).mem i.val = true ↔ (0xA0 : FlagSet 32).mem i.val = true ∧ (scene.paths.get i).measured = true) := by decide +kernel

theorem witness_FeedCloseClosesTheSlot : scene.cmp.engine = .idle ∧ (scene.feeds.get 0).opened = true := by decide +kernel

theorem witness_FeedScanWalksTheOpenFeeds :
    scene.cmp.engine = .idle ∧ ((0 : Fin 64) ≤ 0 ∧ (scene.feeds.get 0).opened = true ∧ ∀ m : FeedSlot, 0 ≤ m → m < 0 → (scene.feeds.get m).opened = false)
      ∧ ((63 : Fin 64) ≤ 63 ∧ (fullFeeds.feeds.get 63).opened = true ∧ ∀ m : FeedSlot, 63 ≤ m → m < 63 → (fullFeeds.feeds.get m).opened = false)
      ∧ (∀ m : FeedSlot, 3 ≤ m → (scene.feeds.get m).opened = false) ∧ (engineIn .held scene).cmp.engine = .held := by decide +kernel

theorem witness_RankReadRanksTheEligiblePaths :
    costScene.cmp.engine = .idle ∧ (costScene.feeds.get 0).opened = true ∧ (costScene.feeds.get 0).direction = .outbound
      ∧ costScene.eligible (costScene.feeds.get 0).out.pathSet 3 = true := by decide +kernel

theorem witness_IdentAndSeed :
    idle.cmp.engine = .idle ∧ (0xACE1 : BitVec 16) = (if (0 : BitVec 16) = 0 then 0xACE1 else 0) ∧ (1 : BitVec 16) = (if (1 : BitVec 16) = 0 then 0xACE1 else 1) := by
  decide +kernel

theorem witness_ClassSetWritesTheNamedEntries : idle.cmp.engine = .idle ∧ 1 < (2 : Byte).toNat ∧ (1 : Byte).toNat ≤ 1 ∧ (0 : Byte).toNat ≤ 1 := by decide +kernel

theorem witness_SystemSetWritesTheSettings :
    scene.cmp.engine = .idle ∧ scene.settings.InRange ∧ ((0x1000 : BitVec 16).getLsbD 12 = true ∧ 1 < (2 : Byte).toNat)
      ∧ ((0x2000 : BitVec 16).getLsbD 13 = true ∧ 1 < (2 : Byte).toNat) ∧ (1 : Byte).toNat ≤ 1 := by
  unfold Settings.InRange; decide +kernel

theorem witness_LineSetWritesTheSettings :
    scene.cmp.engine = .idle ∧ 5 < (6 : Byte).toNat ∧ (7 : Byte).getLsbD 0 = true ∧ (7 : Byte).getLsbD 1 = true ∧ (7 : Byte).getLsbD 2 = true
      ∧ 1 < (2 : Byte).toNat ∧ 3 < (4 : Byte).toNat ∧ (5 : Byte) = byteOf (5 : Line).val ∧ (1 : Byte).toNat ≤ 1 ∧ (3 : Byte).toNat ≤ 3 := by decide +kernel

theorem witness_ReadsThatChangeNothing : scene.cmp.engine = .idle := by decide +kernel

theorem witness_JumpsMoveTime : scene.cmp.engine = .idle ∧ scene.tb.pendingSet = none := by decide +kernel

/-- The scene with a TIME-SET pending. -/
def pendingScene : State := { scene with tb := { scene.tb with pendingSet := some ⟨12000000000, 1000⟩ } }

theorem witness_TimeCommandsWithoutAJump :
    scene.cmp.engine = .idle ∧ 1 < (2 : Byte).toNat ∧ scene.tb.pendingSet = none ∧ pendingScene.cmp.engine = .idle ∧ pendingScene.tb.pendingSet ≠ none := by
  decide +kernel

theorem witness_CoreTickAdvancesTime :
    State.reset.off = true ∧ scene.off = false ∧ scene.tb.InRange
      ∧ ({ scene.tb with slew := -1000000, slewTicks := 999, time := 0 } : TimeBase).InRange := by
  unfold TimeBase.InRange; decide +kernel

theorem some_only {α : Type} {o : Option α} {v : α} {P : α → Prop} (h : o = some v) (p : P v) : ∀ x, o = some x → P x := by
  intro x hx; rw [h] at hx; exact Option.some.inj hx ▸ p

theorem witness_PpsEdgeAndExpiry :
    State.reset.off = true ∧ scene.off = false ∧ scene.tb.pendingSet = none ∧ pendingScene.off = false
      ∧ (pendingScene.tb.pendingSet = some ⟨12000000000, 1000⟩ ∧ 1000 ≤ pendingScene.clock)
      ∧ ∀ x : PendingSet, ({ pendingScene with clock := 999 } : State).tb.pendingSet = some x → 999 < x.expiry :=
  ⟨by decide +kernel, by decide +kernel, by decide +kernel, by decide +kernel, by decide +kernel, some_only (v := ⟨12000000000, 1000⟩) (by decide +kernel) (by decide)⟩

theorem witness_TimeNeverDecreases :
    scene.tb.InRange ∧ exec (.coreTick 1) scene = .next (after (.coreTick 1) scene) ∧ exec .ppsEdge scene = .next (after .ppsEdge scene)
      ∧ scene.tb.pendingSet = none ∧ exec (.timeStep (beBytes 4 0)) scene = .next (after (.timeStep (beBytes 4 0)) scene)
      ∧ (∀ body : List Byte, Instr.coreTick 1 ≠ .timeSetNow body ∧ Instr.coreTick 1 ≠ .timeSetAtPps body ∧ Instr.coreTick 1 ≠ .unknownCommand 0x41 body)
      ∧ ∀ low, Instr.coreTick 1 ≠ .hardwareReset low :=
  ⟨by unfold TimeBase.InRange; decide +kernel, rfl, rfl, by decide +kernel, rfl, fun _ => ⟨Instr.noConfusion, Instr.noConfusion, Instr.noConfusion⟩,
    fun _ => Instr.noConfusion⟩

theorem witness_EventReadReturnsAll : scene.cmp.engine = .idle := by decide +kernel

theorem witness_EventClearAndMask :
    scene.cmp.engine = .idle ∧ 2 ^ 17 ≤ (0x020000 : BitVec 24).toNat ∧ 2 ^ 18 ≤ (0x040000 : BitVec 24).toNat := by decide +kernel

/-- The scene with the notice unit of 10.4. -/
def noticeScene : State := { scene with nu := notices }

theorem witness_NoticesAreTakenAndCleared :
    scene.cmp.engine = .idle ∧ scene.nu.latch = none ∧ noticeScene.nu.latch = some ⟨7, 307, some 3, some 1, .lost, 5000100⟩
      ∧ (∀ k : FeedSlot, ({ noticeScene with nu := { notices with queued := 0 } } : State).nu.queued.mem k.val = false)
      ∧ (noticeScene.nu.queued.mem (2 : FeedSlot).val = true ∧ ∀ k : FeedSlot, k < 2 → noticeScene.nu.queued.mem k.val = false)
      ∧ notices.latch = some ⟨7, 307, some 3, some 1, .lost, 5000100⟩ ∧ (307 : BitVec 16) ≠ 308 ∧ (7 : FeedSlot) ≠ 63 := by decide +kernel

theorem witness_HardwareResetAndInitialisation :
    (engineIn .held scene).cmp.engine = .held ∧ scene.cmp.engine ≠ .held ∧ scene.cmp.engine ≠ .initialising ∧ State.reset.cmp.engine = .initialising := by
  decide +kernel

theorem witness_SoftResetWalksTheUnits : scene.cmp.engine = .idle := by decide +kernel

theorem witness_EndOfWalkWakesTheUnits :
    scene.cmp.engine ≠ .walking ∧ (engineIn .walking scene).cmp.engine = .walking
      ∧ (∀ l : RadioLine, ((engineIn .walking scene).lines.get (radioLine l)).presence = (engineIn .walking scene).presentPin.mem l.val)
      ∧ (∀ l : FibreLine, ((engineIn .walking scene).lines.get (fibreLine l)).lock = (engineIn .walking scene).lockPin.mem l.val)
      ∧ (scene.lines.get (radioLine 0)).presence ≠ ({ scene with presentPin := 0 } : State).presentPin.mem 0
      ∧ (scene.lines.get (fibreLine 1)).lock ≠ ({ scene with lockPin := 0 } : State).lockPin.mem 1
      ∧ (({ scene with lines := scene.lines.modify 5 fun l => { l with lock := false, grade := 0 } } : State).lines.get (fibreLine 1)).lock = false
      ∧ scene.lockPin.mem (1 : FibreLine).val = true
      ∧ ((scene.lines.get 1).grade ≠ 0 ∧ 1 = radioLine 1 ∧ (scene.lines.get 1).presence = true
        ∧ ({ scene with presentPin := 0 } : State).presentPin.mem (1 : RadioLine).val = false)
      ∧ ((scene.lines.get 5).grade ≠ 0 ∧ 5 = fibreLine 1 ∧ (scene.lines.get 5).lock = true ∧ ({ scene with lockPin := 0 } : State).lockPin.mem (1 : FibreLine).val = false)
      ∧ ((scene.paths.get 3).measured = true ∧ (scene.paths.get 3).line = 1 ∧ (scene.paths.get 3).weather.state ≠ .faded) := by decide +kernel

theorem witness_NothingArrivesWhileResetting :
    (engineIn .walking scene).cmp.engine = .walking ∧ State.reset.cmp.engine = .initialising ∧ (engineIn .held scene).cmp.engine = .held := by decide +kernel

theorem witness_MsTickAgesAndClears :
    State.reset.cmp.engine = .initialising ∧ (engineIn .held scene).cmp.engine = .held ∧ ({ scene with clock := 999 } : State).clock < scene.nextMs
      ∧ scene.cmp.engine ≠ .initialising ∧ scene.cmp.engine ≠ .held ∧ scene.nextMs ≤ scene.clock ∧ scene.cmp.engine ≠ .walking
      ∧ (engineIn .walking scene).cmp.engine = .walking := by decide +kernel

theorem witness_WindowCloseMovesWeather :
    (scene.window = some ⟨10, 10⟩ ∧ (⟨10, 10⟩ : WindowTimer).length ≤ (⟨10, 10⟩ : WindowTimer).elapsed)
      ∧ (∀ w : WindowTimer, ({ scene with window := some ⟨9, 10⟩ } : State).window = some w → w.elapsed < w.length)
      ∧ ∀ w : WindowTimer, State.reset.window = some w → w.elapsed < w.length :=
  ⟨by decide +kernel, some_only (v := ⟨9, 10⟩) (by decide +kernel) (by decide), fun _ h => nomatch h⟩

theorem witness_CarrierLossCascade :
    ((({ scene with clock := 2000 } : State).lines.get (radioLine 0)).timer = some 2000 ∧ 2000 ≤ ({ scene with clock := 2000 } : State).clock
        ∧ (scene.lines.get (radioLine 0)).grade ≠ 0)
      ∧ (scene.resetting = false ∧ scene.presentPin.mem (1 : RadioLine).val = true ∧ (scene.lines.get (radioLine 1)).grade ≠ 0)
      ∧ (scene.lockPin.mem (1 : FibreLine).val = true ∧ (scene.lines.get (fibreLine 1)).grade ≠ 0)
      ∧ ((quietLine scene (radioLine 1)).resetting = false ∧ ((quietLine scene (radioLine 1)).lines.get (radioLine 1)).rxEnable = true
        ∧ ((quietLine scene (radioLine 1)).lines.get (radioLine 1)).presence = true ∧ ((quietLine scene (radioLine 1)).lines.get (radioLine 1)).grade ≠ 0
        ∧ (true = false ∨ (0 : Fin 8) = 0)
        ∧ (false = false ∨ (7 : Fin 8) = 0)) := by decide +kernel

/-- The scene with L1 LOST, its modem PRESENT. -/
def lostScene : State := { scene with lines := (scene.lines.modify 1 fun l => { l with grade := 0 }).modify 5 fun l => { l with grade := 0 } }

theorem witness_ModemStatusIsTaken :
    scene.resetting = false ∧ lostScene.resetting = false
      ∧ (((quietLine scene (radioLine 1)).lines.get (radioLine 1)).rxEnable = true ∧ ((quietLine scene (radioLine 1)).lines.get (radioLine 1)).presence = true
        ∧ (1 : Fin 8) ≠ 0 ∧ ((quietLine scene (radioLine 1)).lines.get (radioLine 1)).grade ≠ 0)
      ∧ ((lostScene.lines.get (radioLine 1)).rxEnable = true ∧ (lostScene.lines.get (radioLine 1)).presence = true ∧ (lostScene.lines.get (radioLine 1)).grade = 0)
      ∧ ((scene.lines.get 5).rxEnable = true ∧ 4 ≤ (5 : Line).val) ∧ ((scene.lines.get 3).rxEnable = true ∧ (scene.lines.get 3).presence = false) := by
  decide +kernel

theorem witness_PinsAndTimersWithoutALoss :
    lostScene.resetting = false ∧ (lostScene.presentPin.mem (1 : RadioLine).val = true ∧ (lostScene.lines.get (radioLine 1)).grade = 0)
      ∧ lostScene.presentPin.mem (3 : RadioLine).val = false ∧ ({ lostScene with lockPin := 0b01 } : State).lockPin.mem (1 : FibreLine).val = false
      ∧ (lostScene.lines.get (fibreLine 1)).grade = 0 ∧ lostScene.lockPin.mem (1 : FibreLine).val = true
      ∧ ((({ lostScene with clock := 900 } : State).lines.get (radioLine 1)).timer = some 900 ∧ 900 ≤ ({ lostScene with clock := 900 } : State).clock)
      ∧ ∀ d, (({ lostScene with clock := 899 } : State).lines.get (radioLine 1)).timer = some d → 899 < d :=
  ⟨by decide +kernel, by decide +kernel, by decide +kernel, by decide +kernel, by decide +kernel, by decide +kernel, by decide +kernel,
    some_only (v := 900) (by decide +kernel) (by decide)⟩

/-- The scene with an echo entry, a SOUND and frames waiting on the IDLE line L1. -/
def busyScene (echoes : List EchoEntry) (sounds : List SoundEntry) (urgent normal : List QueuedFrame) (n : Nat) : State :=
  { scene with lines := scene.lines.modify 1 fun l =>
    { l with echoes := echoes, sounds := sounds, urgent := urgent, normal := normal, ratio := .two, ratioCount := n } }

theorem witness_FrameBoundaryChoosesTheFrame :
    (scene.lines.get 4).tx ≠ none ∧ scene.resetting = false ∧ (scene.lines.get 1).tx = none ∧ (scene.lines.get 2).tx = none ∧ (scene.lines.get 2).grade = 0
      ∧ ((scene.lines.get 1).grade ≠ 0 ∧ (scene.lines.get 1).txEnable = true)
      ∧ ((busyScene [⟨40, 9, 5, false⟩] [] [] [] 0).lines.get 1).echoes = [⟨40, 9, 5, false⟩]
      ∧ ((busyScene [⟨40, 9, 1006684701, false⟩] [] [] [] 0).lines.get 1).echoes = [⟨40, 9, 1006684701, false⟩]
      ∧ (((busyScene [] [⟨0, 40, 811⟩] [] [] 0).lines.get 1).sounds = [⟨0, 40, 811⟩]
        ∧ (busyScene [] [⟨0, 40, 811⟩] [] [] 0).su.contexts.get 0 = some context3)
      ∧ ((scene.lines.get 1).echoes = [] ∧ (scene.lines.get 1).sounds = [] ∧ (scene.lines.get 1).urgent = [] ∧ (scene.lines.get 1).normal = [])
      ∧ (let s := busyScene [] [] [aFrame 1 40 .urgent 1] [aFrame 1 40 .normal 1] 1
        (s.lines.get 1).urgent = [aFrame 1 40 .urgent 1] ∧ (s.lines.get 1).ratioCount < [0, 8, 4, 2][(s.lines.get 1).ratio.byte.toNat]!)
      ∧ (let s := busyScene [] [] [aFrame 1 40 .urgent 1] [aFrame 1 40 .normal 1] 2
        (s.lines.get 1).normal = [aFrame 1 40 .normal 1]
          ∧ ((s.lines.get 1).ratio ≠ .strict ∧ [0, 8, 4, 2][(s.lines.get 1).ratio.byte.toNat]! ≤ (s.lines.get 1).ratioCount)) := by decide +kernel

/-- The frame that L4 sends in the scene. -/
def sending4 : Sending := ⟨.traffic .normal (aFrame 4 44 .normal 1), 1, 512, 0, []⟩

theorem witness_CompletionsFreeTheSender :
    (∀ x, (({ scene with clock := 204 } : State).lines.get 4).tx = some x → 5 * (204 - x.started) < 2 * (x.cells * x.cellTime))
      ∧ ((scene.lines.get 4).tx = some sending4 ∧ 2 * (sending4.cells * sending4.cellTime) ≤ 5 * (205 - sending4.started))
      ∧ (sending4.item = .traffic .normal (aFrame 4 44 .normal 1) ∧ scene.IdentitiesUnique ∧ (scene.paths.get 7).life ≠ .vacant ∧ (scene.paths.get 7).line = 4
        ∧ (scene.paths.get 7).tag = (aFrame 4 44 .normal 1).copy.tag ∧ (scene.paths.get 7).life = .withdrawing ∧ (scene.paths.get 7).queued - 1 = 0)
      ∧ ((({ scene with paths := scene.paths.modify 7 fun p => { p with queued := 2 } } : State).paths.get 7).queued - 1 ≠ 0)
      ∧ ((⟨.sound 40 9, 1, 853, 0, []⟩ : Sending).item = .sound 40 9 ∧ (⟨.echo 40 9 false 0, 1, 853, 0, []⟩ : Sending).item = .echo 40 9 false 0)
      ∧ (scene.ports.get 1).fifo = []
      ∧ (({ scene with ports := scene.ports.set 1 ⟨[⟨21, 5, [1], 7, 8, none, 1, false⟩], .zero⟩ } : State).ports.get 1).fifo = [⟨21, 5, [1], 7, 8, none, 1, false⟩] :=
  ⟨some_only (v := sending4) (by decide +kernel) (by decide), by decide +kernel,
    ⟨by decide +kernel, scene_identities, by decide +kernel, by decide +kernel, by decide +kernel, by decide +kernel, by decide +kernel⟩,
    by decide +kernel, ⟨rfl, rfl⟩, by decide +kernel, by decide +kernel⟩

theorem witness_DuePathsAreServedInSlotOrder :
    (engineIn .walking scene).resetting = true ∧ (dueScene 15 0).resetting = false ∧ (dueScene 14 8).resetting = false
      ∧ (let s := dueScene 15 8
        s.su.due.mem 2 = true ∧ (s.lines.get (s.paths.get 2).line).grade ≠ 0 ∧ (s.lines.get (s.paths.get 2).line).txEnable = true
          ∧ s.su.due.mem 3 = true ∧ (s.lines.get (s.paths.get 3).line).grade ≠ 0 ∧ (s.lines.get (s.paths.get 3).line).txEnable = true
          ∧ s.su.waiting.mem 3 = true ∧ s.su.waiting.mem 2 = false ∧ s.su.due.mem 5 = false ∧ s.su.contexts.get 0 = some context3
          ∧ s.su.contexts.get 15 = none ∧ (∀ c : ContextId, c ≠ 15 → s.su.contexts.get c ≠ none) ∧ s.contextsSuffice = false)
      ∧ (dueScene 14 8).contextsSuffice = true ∧ (dueScene 13 8).su.contexts.get 15 = none ∧ (dueScene 13 8).su.contexts.get 14 = none
      ∧ (dueScene 13 8).su.contexts.get 13 = none := by decide +kernel

theorem witness_SoundingsAreIssuedAndLost :
    (scene.resetting = false ∧ scene.su.nextDue.get 2 = some 2 ∧ 2 ≤ scene.clock / 400 ∧ (scene.paths.get 2).measured = true
        ∧ (∀ k : PathSlot, k ≠ 2 → scene.su.due.mem k.val = false ∧ scene.su.nextDue.get k ≠ some 2))
      ∧ ((scene.lines.get (scene.paths.get 2).line).grade ≠ 0 ∧ (scene.lines.get (scene.paths.get 2).line).txEnable = true
        ∧ scene.su.contexts.get 1 = none ∧ (∀ m : ContextId, m < 1 → scene.su.contexts.get m ≠ none) ∧ (scene.lines.get (scene.paths.get 2).line).tx = none
        ∧ (scene.lines.get (scene.paths.get 2).line).echoes = [] ∧ (scene.lines.get (scene.paths.get 2).line).sounds = [])
      ∧ (({ scene with lines := scene.lines.modify 0 fun l => { l with tx := some sending4 } } : State).lines.get 0).tx ≠ none
      ∧ ¬ ((({ scene with lines := scene.lines.modify 0 fun l => { l with txEnable := false } } : State).lines.get 0).txEnable = true)
      ∧ (∀ c : ContextId, (dueScene 16 0).su.contexts.get c ≠ none) ∧ (dueScene 16 0).su.waiting.mem 2 = false ∧ (dueScene 16 4).su.waiting.mem 2 = true
      ∧ (scene.su.contexts.get 0 = some context3 ∧ context3.deadline = some 1025000000
        ∧ 1025000000 < ({ scene with tb := { scene.tb with time := 1025000001 } } : State).tb.time.toNat)
      ∧ (∀ x, scene.su.contexts.get 0 = some x → ∀ d, x.deadline = some d → 1025000000 ≤ d) :=
  ⟨by decide +kernel, by decide +kernel, by decide +kernel, by decide +kernel, by decide +kernel, by decide +kernel, by decide +kernel, by decide +kernel,
    some_only (v := context3) (by decide +kernel) (some_only (v := 1025000000) (by decide) (by decide))⟩

theorem witness_SamplesMoveTheEstimate :
    (scene.paths.get 2).life = .trial
      ∧ (Settings.reset.trialTolerance < ((3440001 * 16 : Nat) / 16 - (scene.paths.get 2).tuning.nominal : Int).natAbs
        ∧ ((3440000 * 16 : Nat) / 16 - (scene.paths.get 2).tuning.nominal : Int).natAbs ≤ Settings.reset.trialTolerance)
      ∧ ((scene.paths.get 2).goodCount + 1 < Settings.reset.trialCount ∧ Settings.reset.trialCount ≤ ({ scene.paths.get 2 with goodCount := 7 } : Path).goodCount + 1)
      ∧ ((path2 .none).life = .inService ∧ |((2550000 * 16 : Nat) : Int) - (path2 .none).e| ≤ (path2 .none).tuning.spike * 16
        ∧ (path2 .none).tuning.spike * 16 < |((2550001 * 16 : Nat) : Int) - (path2 .none).e| ∧ (path2 .none).est = .valid)
      ∧ ((path2 (.two .above)).outlierRun = .two .above ∧ (path2 (.one .above)).outlierRun ≠ .two .above ∧ ((path2 .none).e : Int) < (2550001 * 16 : Nat))
      ∧ ({ path2 .none with est := .stale } : Path).est ≠ .valid ∧ (scene.paths.get 6).life = .held ∧ (scene.paths.get 0).life = .vacant
      ∧ (scene.paths.get 7).life = .withdrawing := by decide +kernel

theorem only_context0 (P : ContextId → Context → Prop) (h : P 0 context3) : ∀ (c : ContextId) (x : Context), scene.su.contexts.get c = some x → P c x := by
  intro c x hx
  have hc : scene.su.contexts = (Table.replicate 16 none).set 0 (some context3) := by decide +kernel
  rw [hc, Table.get_set] at hx
  split at hx
  · next he => subst he; exact Option.some.inj hx ▸ h
  · rw [Table.get_replicate] at hx; exact nomatch hx

theorem witness_EchoesAndSoundsAreTaken :
    ((quietLine scene 1).resetting = false ∧ ((quietLine scene 1).lines.get 1).rxEnable = true ∧ ((quietLine scene 1).lines.get 1).grade ≠ 0
      ∧ stampOnLine scene 1 = 1006684700 ∧ stampOnLine { scene with lineArrival := scene.lineArrival.set 1 (some 1040000001) } 1 = 1040000001)
      ∧ (∀ (c : ContextId) (x : Context) (t1 : Stamp), scene.su.contexts.get c = some x → ¬ (x.line = 1 ∧ x.tag = 41 ∧ x.id = 811 ∧ x.t1 = some t1))
      ∧ (scene.su.contexts.get 0 = some context3
        ∧ (context3.line = 1 ∧ context3.tag = 40 ∧ context3.id = 811 ∧ context3.t1 = some 1000000000)
        ∧ ∀ (m : ContextId) (y : Context) (t : Stamp), scene.su.contexts.get m = some y → (y.line = 1 ∧ y.tag = 40 ∧ y.id = 811 ∧ y.t1 = some t) →
          (1000000000 : Stamp) < t ∨ ((1000000000 : Stamp) = t ∧ 0 ≤ m))
      ∧ (((1000000002 : Stamp).toNat : Int) - (1000000000 : Stamp).toNat - (3 : BitVec 32).toNat < 0
        ∧ 40000000 < ((1040000001 : Stamp).toNat : Int) - (1000000000 : Stamp).toNat - (0 : BitVec 32).toNat
        ∧ 0 ≤ ((1000000003 : Stamp).toNat : Int) - (1000000000 : Stamp).toNat - (3 : BitVec 32).toNat
        ∧ ((1040000000 : Stamp).toNat : Int) - (1000000000 : Stamp).toNat - (0 : BitVec 32).toNat ≤ 40000000)
      ∧ (scene.lines.get 1).echoes.length < 4 ∧ 4 ≤ (List.replicate 4 (⟨40, 9, 5, false⟩ : EchoEntry)).length :=
  ⟨by decide +kernel,
    fun c x t1 hx => only_context0 (fun _ x => ¬ (x.line = 1 ∧ x.tag = 41 ∧ x.id = 811 ∧ x.t1 = some t1)) (fun h => absurd h.2.1 (by decide)) c x hx,
    ⟨by decide +kernel, by decide, fun m y t hy => only_context0
      (fun m y => (y.line = 1 ∧ y.tag = 40 ∧ y.id = 811 ∧ y.t1 = some t) → (1000000000 : Stamp) < t ∨ ((1000000000 : Stamp) = t ∧ 0 ≤ m))
      (fun h => .inr ⟨Option.some.inj h.2.2.2, by decide⟩) m y hy⟩,
    by decide, by decide +kernel, by decide⟩

theorem witness_BadFramesAreDroppedAndCounted :
    ((engineIn .held scene).cmp.engine = .held ∧ scene.cmp.engine ≠ .held ∧ (quietLine scene 1).resetting = false ∧ (quietPort scene 0).resetting = false)
      ∧ (scene.lines.get 1).rxEnable = true
      ∧ (({ scene with lines := scene.lines.modify 1 fun l => { l with rxEnable := false } } : State).lines.get 1).rxEnable = false
      ∧ (let size (bytes : List Byte) : Nat := [0, 32, 16, 16, 8].getD (bytes.headD 0).toNat 0
        size [] = 0 ∧ size [5] = 0 ∧ (List.replicate 15 (2 : Byte)).length < size [2]
          ∧ (feed21 40 1).length = 35 ∧ ¬ (size (feed21 40 1) = 0 ∨ (feed21 40 1).length < size (feed21 40 1))
          ∧ headerCheck ((feed21 40 1).take 30) = BitVec.ofNat 16 (beValue (((feed21 40 1).drop 30).take 2))
          ∧ headerCheck (((feed21 40 1).set 4 9).take 30) ≠ BitVec.ofNat 16 (beValue ((((feed21 40 1).set 4 9).drop 30).take 2))
          ∧ ¬ (beValue (((feed21 40 1).drop 18).take 2) = 0 ∨ 1024 < beValue (((feed21 40 1).drop 18).take 2))
          ∧ 1024 < beValue (((feedBytes 40 0 0 5 21 1 77 1025 0 0 []).drop 18).take 2) ∧ (soundFrameBytes 40 9 ++ [0]).length ≠ size (soundFrameBytes 40 9))
      ∧ (lostScene.lines.get 1).grade = 0
      ∧ (([1, 2, 3, 4] : List Byte).length < 5 ∧ ([0, 9, 1, 0, 1] : List Byte).length ≠ 5 + beValue ((([0, 9, 1, 0, 1] : List Byte).drop 3).take 2))
      ∧ (([] : List Byte).length = 0 ∧ 1024 < (List.replicate 1025 (0 : Byte)).length ∧ (List.replicate 1024 (0 : Byte)).length ≤ 1024)
      ∧ (∀ k : FeedSlot, ((scene.feeds.get k).opened = true ∧ (scene.feeds.get k).direction = .outbound) → (scene.feeds.get k).number ≠ 21)
      ∧ scene.NumbersUnique ∧ (((scene.feeds.get 0).opened = true ∧ (scene.feeds.get 0).direction = .outbound) ∧ (scene.feeds.get 0).number = 9
        ∧ (scene.feeds.get 0).out.port ≠ 3) :=
  ⟨by decide +kernel, by decide +kernel, by decide +kernel, by decide +kernel, by decide +kernel, by decide +kernel, by decide +kernel, by decide +kernel,
    scene_numbers, by decide +kernel⟩

theorem witness_FeedFramesAreDelivered :
    ((quietLine scene 1).resetting = false ∧ ((quietLine scene 1).lines.get 1).rxEnable = true ∧ ((quietLine scene 1).lines.get 1).grade ≠ 0 ∧ 1 ≤ (1 : BitVec 16).toNat ∧ (1024 : BitVec 16).toNat ≤ 1024)
      ∧ (∀ i : PathSlot, some (3 : PathSlot) = some i ↔ (scene.paths.get i).life ≠ .vacant ∧ (scene.paths.get i).line = 1 ∧ (scene.paths.get i).tag = 40)
      ∧ (∀ i : PathSlot, (none : Option PathSlot) = some i ↔ (scene.paths.get i).life ≠ .vacant ∧ (scene.paths.get i).line = 1 ∧ (scene.paths.get i).tag = 41)
      ∧ (∀ k : FeedSlot, ¬ ((scene.feeds.get k).opened = true ∧ (scene.feeds.get k).direction = .inbound ∧ (scene.feeds.get k).number = 9))
      ∧ scene.NumbersUnique ∧ ((scene.feeds.get 1).opened = true ∧ (scene.feeds.get 1).direction = .inbound ∧ (scene.feeds.get 1).number = 21)
      ∧ (((scene.feeds.get 1).inb.window.judge (2 ^ (scene.feeds.get 1).inb.sizeCode) (scene.feeds.get 1).inb.start 101).2 = .advanced 0
        ∧ ((scene.feeds.get 1).inb.window.judge (2 ^ (scene.feeds.get 1).inb.sizeCode) (scene.feeds.get 1).inb.start 100).2 = .duplicate
        ∧ ((scene.feeds.get 1).inb.window.judge (2 ^ (scene.feeds.get 1).inb.sizeCode) (scene.feeds.get 1).inb.start 84).2 = .tooOld)
      ∧ payloadCheck [1, 2, 3] ≠ 0 :=
  ⟨by decide +kernel, by decide +kernel, by decide +kernel, by decide +kernel, scene_numbers, by decide +kernel, by decide +kernel, by decide +kernel⟩

theorem witness_WindowsJudgeArrivals :
    4 ≤ 4 ∧ 8 ≤ 8 ∧ (liveWindow 100).live = true ∧ SeqWindow.empty.live = false ∧ 0 < ((101 - 100 : Seq).toInt) ∧ 0 < ((100 + 0x7FFFFFFF - 100 : Seq).toInt)
      ∧ (-((2 ^ 4 : Nat) : Int) < (85 - 100 : Seq).toInt ∧ (100 - 100 : Seq).toInt ≤ 0) ∧ (84 - 100 : Seq).toInt ≤ -((2 ^ 4 : Nat) : Int)
      ∧ ((liveWindow 100).seen.getLsbD ((85 : Seq).toNat % 16) = true ∧ ({ liveWindow 100 with seen := 0 } : SeqWindow).seen.getLsbD ((85 : Seq).toNat % 16) = false)
      ∧ (({ liveWindow 100 with tooOldRun := 2 } : SeqWindow).tooOldRun < 3 ∧ 3 ≤ ({ liveWindow 100 with tooOldRun := 3 } : SeqWindow).tooOldRun) := by decide +kernel

theorem witness_NoSequenceIsPassedTwice :
    (liveWindow 103).live = true ∧ (liveWindow 103).seen.getLsbD ((liveWindow 103).high.toNat % 2 ^ 4) = true
      ∧ (∀ s ∈ ([120, 103, 110, 88 + 0x7FFFFFFF] : List Seq), (s - ((liveWindow 103).high - BitVec.ofNat 32 (2 ^ 4 - 1))).toNat < 2 ^ 31)
      ∧ passedBy (2 ^ 4) .adopt (liveWindow 103) [120, 103, 110, 88 + 0x7FFFFFFF] = ([120, 110, 88 + 0x7FFFFFFF], false) := by
  refine ⟨by decide +kernel, by decide +kernel, fun s hs => ?_, by decide +kernel⟩
  simp only [List.mem_cons, List.not_mem_nil, or_false] at hs
  rcases hs with rfl | rfl | rfl | rfl <;> decide +kernel

theorem witness_LeadsAreChosenByPinAndCost :
    (costScene.eligible 0x68 3 = true ∧ ∀ i : PathSlot, costScene.eligible 0x68 i = true →
        costScene.cost .normal 3 < costScene.cost .normal i ∨ (costScene.cost .normal 3 = costScene.cost .normal i ∧ 3 ≤ i))
      ∧ (∀ i : PathSlot, costScene.eligible 0x40 i = false) ∧ costScene.eligible 0x68 5 = true
      ∧ (costScene.cost .normal 3 + costScene.settings.switchMargin < costScene.cost .normal 5 ∧ costScene.cost .normal 3 ≤ costScene.cost .normal 5 + costScene.settings.switchMargin) := by
  decide +kernel

theorem witness_MessagesAreSent :
    (costScene.resetting = false ∧ costScene.NumbersUnique ∧ ((costScene.feeds.get 0).opened = true ∧ (costScene.feeds.get 0).direction = .outbound)
        ∧ (costScene.feeds.get 0).number = 9 ∧ (costScene.feeds.get 0).out.port = 0)
      ∧ (1 ≤ ([7] : List Byte).length ∧ (List.replicate 1024 (0 : Byte)).length ≤ 1024) ∧ (costScene.feeds.get 0).out.rateLimit = 0
      ∧ lowestBy (costScene.cost .normal) (costScene.eligiblePaths 0x68) = some 3
      ∧ (costScene.eligible 0x68 5 = true ∧ (costScene.paths.get 5).line ≠ (costScene.paths.get 3).line)
      ∧ (∀ i : PathSlot, costScene.eligible 0x08 i = true → (costScene.paths.get i).line = (costScene.paths.get 3).line)
      ∧ (∀ i : PathSlot, costScene.eligible 0x40 i = false)
      ∧ (let s : State := { costScene with paths := costScene.paths.modify 3 fun p => { p with est := .stale } }
        (∀ i : PathSlot, s.eligible 0x08 i = false) ∧ (0x08 : FlagSet 32).mem 3 = true ∧ (s.paths.get 3).life = .inService
          ∧ (s.lines.get (s.paths.get 3).line).grade ≠ 0 ∧ (s.lines.get (s.paths.get 3).line).txEnable = true) :=
  ⟨⟨by decide +kernel, by unfold State.NumbersUnique; decide +kernel, by decide +kernel, by decide +kernel, by decide +kernel⟩, by decide +kernel, by decide +kernel,
    by decide +kernel, by decide +kernel, by decide +kernel, by decide +kernel, by decide +kernel⟩

theorem witness_CopiesAreAdmittedOrDropped :
    scene.IdentitiesUnique ∧ ((scene.paths.get 3).life ≠ .vacant ∧ (scene.paths.get 3).line = 1 ∧ (scene.paths.get 3).tag = 40)
      ∧ (32 + 1024 + 63) / 64 + ((List.finRange 6).map fun m => 32 - (scene.lines.get m).cells .urgent).sum ≤ scene.freeCells
      ∧ (∀ m : PathSlot, ¬ ((scene.paths.get m).life ≠ .vacant ∧ (scene.paths.get m).line = 1 ∧ (scene.paths.get m).tag = 999))
      ∧ ¬ ((32 + 1 + 63) / 64 ≤ ({ scene with freeCells := 0 } : State).freeCells) :=
  ⟨scene_identities, by decide +kernel, by decide +kernel, by decide +kernel, by decide +kernel⟩

/-- A command that answers a next state, alone in the queue. -/
theorem step_one (s : State) (c : Instr) (hp : s.pending = []) (h : exec c s = .next (after c s)) : step { s with pending := [c] } = .next (after c s) := by
  rw [← h, show s = { s with pending := [] } by rw [← hp]]; rfl

theorem exec_frameCompletion (s : State) (l : Line) : exec (.frameCompletion l) s = .next (after (.frameCompletion l) s) := rfl
theorem exec_msTick (s : State) : exec .msTick s = .next (after .msTick s) := rfl
theorem exec_coreTick (s : State) (n : Nat) : exec (.coreTick n) s = .next (after (.coreTick n) s) := rfl
theorem exec_pathRetire (s : State) (b : List Byte) : exec (.pathRetire b) s = .next (after (.pathRetire b) s) := rfl
theorem exec_noticeClear (s : State) (b : List Byte) : exec (.noticeClear b) s = .next (after (.noticeClear b) s) := rfl

/-- The scene when L4's frame ends, with its completion at the front of the queue. -/
def scene205 : State := { scene with clock := 205 }

theorem witness_EveryStepKeepsThePoolWhole :
    ({ scene205 with pending := [.frameCompletion 4] } : State).PoolWhole
      ∧ step { scene205 with pending := [.frameCompletion 4] } = .next (after (.frameCompletion 4) scene205) :=
  ⟨by unfold State.PoolWhole; decide +kernel, step_one _ _ rfl (exec_frameCompletion _ _)⟩

theorem witness_EveryStepKeepsQueuesCounted :
    ({ scene205 with pending := [.frameCompletion 4] } : State).IdentitiesUnique ∧ ({ scene205 with pending := [.frameCompletion 4] } : State).QueuesCounted
      ∧ step { scene205 with pending := [.frameCompletion 4] } = .next (after (.frameCompletion 4) scene205) := by
  refine ⟨by unfold State.IdentitiesUnique; decide +kernel, ⟨by decide +kernel, ?_⟩, step_one _ _ rfl (exec_frameCompletion _ _)⟩
  have h : ∀ l : Line, ∀ f ∈ (scene.lines.get l).frames, l = 4 ∧ f = aFrame 4 44 .normal 1 := by decide +kernel
  intro l f hf
  obtain ⟨rfl, rfl⟩ := h l f hf
  exact ⟨7, by decide +kernel⟩

theorem scene_soundings : scene.SoundingsLive := by
  refine ⟨only_context0 (fun _ x => (scene.paths.get x.path).measured = true ∧ (scene.paths.get x.path).line = x.line ∧ (scene.paths.get x.path).tag = x.tag
    ∧ (scene.lines.get x.line).carrier = true) (by decide +kernel), ?_, ?_⟩
  · unfold State.DueMeasured; decide +kernel
  · unfold State.QuietWhenOff; decide +kernel

theorem witness_EveryStepKeepsSoundingsLive :
    ({ scene with pending := [.msTick] } : State).SoundingsLive ∧ step { scene with pending := [.msTick] } = .next (after .msTick scene) :=
  ⟨scene_soundings, step_one _ _ rfl (exec_msTick _)⟩

theorem witness_EveryStepKeepsFeedsSound :
    ({ scene with pending := [.pathRetire [3]] } : State).FeedsSound ∧ step { scene with pending := [.pathRetire [3]] } = .next (after (.pathRetire [3]) scene) := by
  refine ⟨⟨scene_numbers, ?_⟩, step_one _ _ rfl (exec_pathRetire _ _)⟩
  unfold State.ReferencesLive Feed.sends
  decide +kernel

/-- The scene with feed 9's notice in the latch and feed 10 in the pending set. -/
def latched : State := { scene with nu := { notices with latch := some ⟨0, 9, none, some 3, .lost, 5⟩ } }

theorem witness_EveryStepKeepsNoticesOrderly :
    ({ latched with pending := [.noticeClear []] } : State).NoticesOrderly
      ∧ step { latched with pending := [.noticeClear []] } = .next (after (.noticeClear []) latched) := by
  refine ⟨⟨?_, some_only (v := ⟨0, 9, none, some 3, .lost, 5⟩) rfl (by decide), ?_⟩, step_one _ _ rfl (exec_noticeClear _ _)⟩
  · decide +kernel
  · unfold Feed.sends; decide +kernel

theorem witness_EveryStepKeepsValuesInRange :
    ({ scene with pending := [.coreTick 1] } : State).ListsBounded ∧ ({ scene with pending := [.coreTick 1] } : State).ValuesInRange
      ∧ step { scene with pending := [.coreTick 1] } = .next (after (.coreTick 1) scene) := by
  refine ⟨?_, ?_, step_one _ _ rfl (exec_coreTick _ _)⟩
  · unfold State.ListsBounded; decide +kernel
  · unfold State.ValuesInRange Settings.InRange Path.InRange Tuning.InRange TimeBase.InRange; decide +kernel

end Sys2Proof.Tests
end

section
/-! FEED-SCAN: what the scan finds from its cursor, and which commands move the cursor (R83). -/

namespace Sys2Proof

/-- A record that satisfies the condition, with none below it that does, is the lowest. -/
theorem Table.lowest_eq_some {α : Type} {n : Nat} {t : Table α n} {p : Fin n → α → Bool} {i : Fin n} (hi : p i (t.get i) = true)
    (below : ∀ k, k < i → p k (t.get k) = false) : t.lowest p = some i := by
  cases h : t.lowest p with
  | none => simp [Table.lowest_none.1 h i] at hi
  | some j =>
    obtain ⟨hj, least⟩ := Table.lowest_some h
    obtain hlt | rfl | hgt := lt_trichotomy i j
    · simp [least i hlt] at hi
    · rfl
    · simp [below j hgt] at hj

namespace Machine

variable (s : State)

/-! ### The outcomes of the checks that feed commands share -/

/-- What the length check of a request can do (R166). -/
theorem State.ofLength_cases (n : Nat) (body : List Byte) (act : State × Reply) :
    (body.length = n ∧ s.ofLength n body act = act) ∨ (body.length ≠ n ∧ s.ofLength n body act = s.refusing .malformed) := by
  by_cases h : body.length = n
  · exact .inl ⟨h, if_pos h⟩
  · exact .inr ⟨h, s.ofLength_ne h act⟩

/-- What the check of an operand form can do (R166, R170). -/
theorem State.parsed_cases {α : Type} (form : Option α) (act : α → State × Reply) :
    (∃ x, form = some x ∧ s.parsed form act = act x) ∨ (form = none ∧ s.parsed form act = s.refusing .malformed) := by
  cases form with
  | none => exact .inr ⟨rfl, rfl⟩
  | some x => exact .inl ⟨x, rfl, rfl⟩

@[simp] theorem State.refusing_fst (r : Result) : (s.refusing r).1 = s := rfl

/-! ### The cursor over a request, FEED-OPEN and FEED-CLOSE -/

/-- A request keeps the scan cursor if what it runs keeps it, whether it is taken or not (R165). -/
theorem State.request_scanCursor {run : State → State × Reply} (keeps : ∀ u : State, (run u).1.scanCursor = u.scanCursor) (code : Byte) (body : List Byte) :
    (s.request code body run).scanCursor = s.scanCursor := by
  by_cases h : s.cmp.engine = .idle
  · rw [State.request_of_idle h]
    exact keeps (s.taken body)
  · rw [State.request_of_busy h]

/-- FEED-OPEN, OUTBOUND, writes one feed record or nothing (R78, R79). -/
theorem State.openOut_fst (r : OpenOutRequest) : (s.openOut r).1 = s ∨ ∃ k f, (s.openOut r).1 = s.onFeed k f := by
  unfold State.openOut
  cases s.slotForFeed .outbound r.number r.slot with
  | error e => exact .inl rfl
  | ok k => exact .inr ⟨k, _, rfl⟩

/-- FEED-OPEN, INBOUND, writes one feed record or nothing (R78, R79). -/
theorem State.openIn_fst (r : OpenInRequest) : (s.openIn r).1 = s ∨ ∃ k f, (s.openIn r).1 = s.onFeed k f := by
  unfold State.openIn
  cases s.slotForFeed .inbound r.number r.slot with
  | error e => exact .inl rfl
  | ok k => exact .inr ⟨k, _, rfl⟩

/-- FEED-OPEN writes one feed record or nothing (R78, R79, R166). -/
theorem State.feedOpen_fst (body : List Byte) : (s.feedOpen body).1 = s ∨ ∃ k f, (s.feedOpen body).1 = s.onFeed k f := by
  unfold State.feedOpen
  cases directionByte body with
  | none => exact .inl rfl
  | some d =>
    cases d with
    | outbound =>
      obtain ⟨r, -, hr⟩ | ⟨-, hr⟩ := s.parsed_cases (parseOpenOut body) s.openOut
      · simpa only [hr] using s.openOut_fst r
      · exact .inl (congrArg Prod.fst hr)
    | inbound =>
      obtain ⟨r, -, hr⟩ | ⟨-, hr⟩ := s.parsed_cases (parseOpenIn body) s.openIn
      · simpa only [hr] using s.openIn_fst r
      · exact .inl (congrArg Prod.fst hr)

/-- FEED-CLOSE closes one feed or does nothing (R81, R166). -/
theorem State.feedClose_fst (body : List Byte) : (s.feedClose body).1 = s ∨ ∃ k, (s.feedClose body).1 = s.closeFeed k := by
  unfold State.feedClose
  obtain ⟨-, h⟩ | ⟨-, h⟩ := s.ofLength_cases 1 body _ <;> rw [h]
  · obtain ⟨k, -, hk⟩ | ⟨-, hk⟩ := s.parsed_cases (indexOf 64 (byteAt body 0)) _ <;> rw [hk]
    · obtain ⟨-, hc⟩ | ⟨-, hc⟩ := s.checkFeed_cases k _ <;> rw [hc]
      · exact .inr ⟨k, rfl⟩
      · exact .inl rfl
    · exact .inl rfl
  · exact .inl rfl

@[simp] theorem State.feedOpen_scanCursor (body : List Byte) : (s.feedOpen body).1.scanCursor = s.scanCursor := by
  obtain h | ⟨k, f, h⟩ := s.feedOpen_fst body
  · rw [h]
  · rw [h, State.onFeed_scanCursor]

@[simp] theorem State.feedClose_scanCursor (body : List Byte) : (s.feedClose body).1.scanCursor = s.scanCursor := by
  obtain h | ⟨k, h⟩ := s.feedClose_fst body
  · rw [h]
  · rw [h, State.closeFeed, State.onNu_scanCursor, State.onFeed_scanCursor]

/-! ### The cursor after a reset -/

/-- A level of RESET_N that resets the part leaves the scan cursor at 0 (R83, R176). -/
theorem State.resetPin_scanCursor {level : ResetLevel} (resets : level ≠ .high ∨ s.cmp.engine = .held) : (s.resetPin level).scanCursor = 0 := by
  cases level with
  | low bytes => rfl
  | high =>
    have held : s.cmp.engine = .held := resets.resolve_left fun h => h rfl
    rw [State.resetPin, if_pos held]
    rfl

/-- SOFT-RESET taken from an IDLE engine is the walk (R174). -/
theorem State.softReset_of_idle {s : State} (h : s.cmp.engine = .idle) : s.softReset [] = s.startWalk := by
  simp [State.softReset, h]

/-! ### The scan -/

/-- The first OPEN slot at or after the cursor is the one a scan finds (R83). -/
theorem State.openAfter_eq_some {s : State} {cursor : Fin 64} {k : FeedSlot} (after : cursor ≤ k) (opened : (s.feeds.get k).opened = true)
    (first : ∀ m : FeedSlot, cursor ≤ m → m < k → (s.feeds.get m).opened = false) : s.openAfter cursor = some k := by
  refine Table.lowest_eq_some (by simp [after, opened]) fun m hm => ?_
  by_cases h : cursor ≤ m
  · simp [first m h hm]
  · simp [h]

/-- With no OPEN slot at or after the cursor a scan finds none (R83). -/
theorem State.openAfter_eq_none {s : State} {cursor : Fin 64} (closed : ∀ m : FeedSlot, cursor ≤ m → (s.feeds.get m).opened = false) :
    s.openAfter cursor = none := by
  refine Table.lowest_none.2 fun m => ?_
  by_cases h : cursor ≤ m
  · simp [closed m h]
  · simp [h]

/-- A scan that finds slot `k` answers it and puts the cursor behind it (R83). -/
theorem State.scanFrom_some {s : State} {cursor : Fin 64} {k : FeedSlot} (h : s.openAfter cursor = some k) :
    s.scanFrom cursor = ({ s with scanCursor := nextCursor k },
      done ([byteOf k.val, (s.feeds.get k).direction.byte] ++ beBytes 2 (s.feeds.get k).number.toNat)) := by
  rw [State.scanFrom, h]
  rfl

/-- A scan that finds no slot is refused, and holds the cursor at 63 (R83). -/
theorem State.scanFrom_none {s : State} {cursor : Fin 64} (h : s.openAfter cursor = none) :
    s.scanFrom cursor = ({ s with scanCursor := 63 }, refuse .notFound) := by
  rw [State.scanFrom, h]

/-- FEED-SCAN of one option byte scans from 0 with the restart option, else from the cursor (R83, R171). -/
theorem State.feedScan_singleton (options : Byte) : s.feedScan [options] = s.scanFrom (if options.getLsbD 1 then 0 else s.scanCursor) := by
  have bit : (byteAt [options] 0).testBit 1 = options.getLsbD 1 := by rw [byteAt, field_cons_zero_one, BitVec.testBit_toNat]
  rw [State.feedScan, bit]
  exact s.ofLength_self [options] _

/-- FEED-SCAN from an IDLE engine: the scan's new cursor and its answer are all that changes (R83, R165, R167). -/
theorem exec_feedScan_of_scanFrom {s : State} {options : Byte} {next : Fin 64} {r : Reply} (idle : s.cmp.engine = .idle)
    (scan : (s.taken [options]).scanFrom (if options.getLsbD 1 then 0 else s.scanCursor) = ({ s.taken [options] with scanCursor := next }, r)) :
    exec (.feedScan [options]) s = .next { s with cmp := s.answered [options] 0x25 r.result r.fields, scanCursor := next } :=
  congrArg Host.Outcome.next (State.request_eq (t := { s with scanCursor := next }) idle ((State.feedScan_singleton _ options).trans scan))

/-- Settles O18: the scan's slot is the lowest of the OPEN ones from the cursor on; the resets write the cursor, and FEED-OPEN and FEED-CLOSE reach no field but the feed
table and the route notices. -/
theorem feedScanWalksTheOpenFeeds : Obligations.FeedScanWalksTheOpenFeeds := by
  refine ⟨fun s options idle => ⟨fun k after opened first => ?found, fun closed => ?notFound⟩, rfl, ?hardwareReset, ?softReset, ?openAndClose⟩
  case found =>
    exact ⟨nextCursor k, rfl, exec_feedScan_of_scanFrom idle (State.scanFrom_some (State.openAfter_eq_some after opened first))⟩
  case notFound =>
    exact exec_feedScan_of_scanFrom idle (State.scanFrom_none (State.openAfter_eq_none closed))
  case hardwareReset =>
    rintro s t level resets ⟨⟩
    exact s.resetPin_scanCursor resets
  case softReset =>
    rintro s t idle ⟨⟩
    rw [State.softReset_of_idle idle, State.startWalk_eq]
  case openAndClose =>
    rintro s t body (h | h) <;> cases h
    · exact s.request_scanCursor (·.feedOpen_scanCursor body) 0x20 body
    · exact s.request_scanCursor (·.feedClose_scanCursor body) 0x22 body

end Machine

end Sys2Proof
end

section
/-! EVENT-READ: the flags, the eleven member sets and the mask, as they stand (R156). -/

namespace Sys2Proof.Machine

/-- The bytes of a kind's member set are those of its set in the table of 10.1, and none for a kind without one. -/
theorem NoticeUnit.memberBytes_eq_memberSetBytes (n : NoticeUnit) : ∀ kind : Nat, n.memberBytes kind = memberSetBytes n kind
  | 0 | 1 | 2 | 3 | 4 | 5 => rfl
  | 6 | 7 | 8 => rfl
  | 9 | 10 => rfl
  | kind + 11 => by
    rw [NoticeUnit.memberBytes, dif_neg (by omega), dif_neg (by omega), dif_neg (by omega)]
    rfl

/-- The answer of EVENT-READ with its member sets in one list, in the order of the table in 10.1 (R156). -/
theorem NoticeUnit.eventBytes_eq (n : NoticeUnit) :
    n.eventBytes = beBytes 3 n.flags.toNat ++ (List.range 11).flatMap (memberSetBytes n) ++ beBytes 3 n.mask.toNat := by
  rw [NoticeUnit.eventBytes, funext n.memberBytes_eq_memberSetBytes]

/-- EVENT-READ of one option byte answers the events, whatever the byte is (R156). -/
theorem State.eventRead_singleton (s : State) (options : Byte) : s.eventRead [options] = (s, done s.nu.eventBytes) :=
  s.ofLength_self [options] _

/-- EVENT-READ from an IDLE engine: its answer is all that changes (R156, R165, R167). -/
theorem exec_eventRead_of_idle {s : State} (idle : s.cmp.engine = .idle) (options : Byte) :
    exec (.eventRead [options]) s = .next { s with cmp := s.answered [options] 0x50 .done s.nu.eventBytes } :=
  congrArg Host.Outcome.next (State.request_eq (t := s) (r := done s.nu.eventBytes) idle ((s.taken [options]).eventRead_singleton options))

/-- Settles O30: the answer's member sets are the list of the eleven kinds' sets, written out. -/
theorem eventReadReturnsAll : Obligations.EventReadReturnsAll := by
  intro s options idle
  have kinds : List.range 11 = [0, 1, 2, 3, 4, 5, 6, 7, 8, 9, 10] := rfl
  rw [exec_eventRead_of_idle idle, NoticeUnit.eventBytes_eq, kinds]
  simp only [List.flatMap_cons, List.flatMap_nil, List.append_assoc, List.nil_append]

end Sys2Proof.Machine
end

section
/-! IDENT-READ and SEED: the identity's fields and their widths, and the value the generator is loaded with (R173, R27). -/

namespace Sys2Proof.Machine

/-! ### IDENT-READ -/

/-- The width in bytes that the model gives each of the identity's nine fields (R173, log 15). -/
def identWidths : List Nat := [2, 2, 1, 1, 1, 1, 2, 1, 1]

/-- The identity's fields: vendor, part, revision and the six capacities (R173). -/
def identFields : List Nat := [0x4856, 0x0316, 0x01, 32, 64, 16, 4096, 6, 4]

/-- Each field of the identity fits the width it is given. -/
theorem identFields_fit : ∀ x ∈ identWidths.zip identFields, x.2 < 256 ^ x.1 := by decide

/-- The identity's bytes are its fields, each in its width (R173). -/
theorem identBytes_eq_flatMap : identBytes = (identWidths.zip identFields).flatMap fun x => beBytes x.1 x.2 := rfl

/-- IDENT-READ of one option byte answers the identity, whatever the byte is (R173). -/
theorem State.identRead_singleton (s : State) (options : Byte) : s.identRead [options] = (s, done identBytes) :=
  s.ofLength_self [options] _

/-- IDENT-READ from an IDLE engine: its answer is all that changes (R165, R167, R173). -/
theorem exec_identRead_of_idle {s : State} (idle : s.cmp.engine = .idle) (options : Byte) :
    exec (.identRead [options]) s = .next { s with cmp := s.answered [options] 0x02 .done identBytes } :=
  congrArg Host.Outcome.next (State.request_eq (t := s) (r := done identBytes) idle ((s.taken [options]).identRead_singleton options))

/-! ### SEED -/

/-- A word comes back from its two bytes (R171). -/
theorem ofNat_field_beBytes_two (v : BitVec 16) : BitVec.ofNat 16 (field (beBytes 2 v.toNat) 0 2) = v := by
  have small : v.toNat < 256 ^ 2 := v.isLt
  rw [field_whole _ 2 (length_beBytes 2 _), beValue_beBytes, Nat.mod_eq_of_lt small, BitVec.ofNat_toNat, BitVec.setWidth_eq]

/-- SEED of the two bytes of `v` loads `v` (R27, R171). -/
theorem State.seed_beBytes (s : State) (v : BitVec 16) : s.seed (beBytes 2 v.toNat) = s.loadSeed v := by
  rw [State.seed, ofNat_field_beBytes_two]
  exact s.ofLength_self (beBytes 2 v.toNat) _

/-- A reply that may be ADJUSTED is so exactly when a value was brought into range, and else DONE (R170). -/
theorem doneOr_decide_result (adjusted : Prop) [Decidable adjusted] (fields : List Byte) :
    (doneOr (decide adjusted) fields).result = if adjusted then .adjusted else .done := by
  rw [doneOr]
  simp only [decide_eq_true_eq]

/-- SEED from an IDLE engine: its answer and the generator are all that changes (R27, R165, R167). -/
theorem exec_seed_of_idle {s : State} (idle : s.cmp.engine = .idle) (v : BitVec 16) :
    exec (.seed (beBytes 2 v.toNat)) s = .next { s with
      cmp := s.answered (beBytes 2 v.toNat) 0x04 (if v = 0 then .adjusted else .done) (beBytes 2 (seedLoaded v).toNat)
      su := { s.su with jitter := seedLoaded v } } := by
  rw [← doneOr_decide_result (v = 0) (beBytes 2 (seedLoaded v).toNat)]
  exact congrArg Host.Outcome.next
    (State.request_eq (t := s.onSu fun u => { u with jitter := seedLoaded v }) idle ((s.taken _).seed_beBytes v))

/-- Settles O20: the identity's bytes split into its nine fields, and a seed's bytes spell the seed back. -/
theorem identAndSeed : Obligations.IdentAndSeed := by
  refine ⟨fun s options idle => ?ident, ?seed⟩
  case ident =>
    refine ⟨identWidths, rfl, identFields_fit, ?_⟩
    rw [exec_identRead_of_idle idle, identBytes_eq_flatMap]
    rfl
  case seed =>
    rintro s v loaded idle rfl
    exact exec_seed_of_idle idle v

end Sys2Proof.Machine
end

section
/-! The six invariants that every step keeps, as one relation between a state and the next; what a change of one part owes to them, and that such changes chain. -/

namespace Sys2Proof.Machine

/-! ### The relation -/

/-- Each invariant that holds before holds after. -/
structure State.Preserves (s t : State) : Prop where
  pool : s.PoolWhole → t.PoolWhole
  queues : s.IdentitiesUnique ∧ s.QueuesCounted → t.IdentitiesUnique ∧ t.QueuesCounted
  soundings : s.SoundingsLive → t.SoundingsLive
  feeds : s.FeedsSound → t.FeedsSound
  notices : s.NoticesOrderly → t.NoticesOrderly
  ranges : s.ListsBounded ∧ s.ValuesInRange → t.ListsBounded ∧ t.ValuesInRange

theorem State.Preserves.refl (s : State) : s.Preserves s := ⟨id, id, id, id, id, id⟩

theorem State.Preserves.trans {s t u : State} (h : s.Preserves t) (k : t.Preserves u) : s.Preserves u :=
  ⟨k.pool ∘ h.pool, k.queues ∘ h.queues, k.soundings ∘ h.soundings, k.feeds ∘ h.feeds, k.notices ∘ h.notices, k.ranges ∘ h.ranges⟩

/-- Each invariant that holds before holds after, and the time base stays as it was. -/
structure State.Keeps (s t : State) : Prop extends State.Preserves s t where
  time : t.tb = s.tb

theorem State.Keeps.refl (s : State) : s.Keeps s := ⟨.refl s, rfl⟩

theorem State.Keeps.trans {s t u : State} (h : s.Keeps t) (k : t.Keeps u) : s.Keeps u := ⟨h.toPreserves.trans k.toPreserves, k.time.trans h.time⟩

theorem State.Keeps.of_eq {s t : State} (h : t = s) : s.Keeps t := h ▸ .refl s

/-- A chain of changes that keep the invariants keeps them. -/
theorem State.Keeps.foldl {α : Type} {f : State → α → State} (h : ∀ s a, State.Keeps s (f s a)) (l : List α) (s : State) : s.Keeps (l.foldl f s) := by
  induction l generalizing s with
  | nil => exact .refl s
  | cons a l ih => exact (h s a).trans (ih _)

/-! ### Changes of records that owe nothing -/

/-- A path measured as before, of the same identity if so, with its values in range. -/
structure Path.Cared (set : Settings) (p q : Path) : Prop where
  measured : q.measured = p.measured
  line : p.measured = true → q.line = p.line
  tag : p.measured = true → q.tag = p.tag
  range : set.InRange → p.InRange → q.InRange

theorem Path.Cared.refl (set : Settings) (p : Path) : p.Cared set p := ⟨rfl, fun _ => rfl, fun _ => rfl, fun _ h => h⟩

/-- A path changed within its life: still of its identity, measured if it was, its count the same, and its values in range. -/
structure Path.Kept (set : Settings) (p q : Path) : Prop where
  life : q.life = .vacant ↔ p.life = .vacant
  measured : q.measured = p.measured
  line : q.line = p.line
  tag : q.tag = p.tag
  queued : q.queued = p.queued
  range : set.InRange → p.InRange → q.InRange

theorem Path.Kept.refl (set : Settings) (p : Path) : p.Kept set p := ⟨.rfl, rfl, rfl, rfl, rfl, fun _ h => h⟩

theorem Path.Kept.cared {set : Settings} {p q : Path} (h : p.Kept set q) : p.Cared set q := ⟨h.measured, fun _ => h.line, fun _ => h.tag, h.range⟩

/-- A line that loses no carrier, with its lists within their sizes. -/
structure LinePort.Held (p q : LinePort) : Prop where
  carrier : p.carrier = true → q.carrier = true
  echoes : p.echoes.length ≤ 4 → q.echoes.length ≤ 4
  ratio : p.ratioCount ≤ 8 → q.ratioCount ≤ 8

theorem LinePort.Held.refl (p : LinePort) : p.Held p := ⟨id, id, id⟩

/-- A line changed with its frames kept, no carrier lost, and its lists within their sizes. -/
structure LinePort.Kept (p q : LinePort) : Prop where
  frames : q.frames = p.frames
  carrier : p.carrier = true → q.carrier = true
  echoes : p.echoes.length ≤ 4 → q.echoes.length ≤ 4
  ratio : p.ratioCount ≤ 8 → q.ratioCount ≤ 8

theorem LinePort.Kept.held {p q : LinePort} (h : p.Kept q) : p.Held q := ⟨h.carrier, h.echoes, h.ratio⟩

theorem LinePort.Kept.refl (p : LinePort) : p.Kept p := ⟨rfl, id, id, id⟩

theorem LinePort.Kept.trans {p q r : LinePort} (h : p.Kept q) (k : q.Kept r) : p.Kept r :=
  ⟨k.frames.trans h.frames, k.carrier ∘ h.carrier, k.echoes ∘ h.echoes, k.ratio ∘ h.ratio⟩

/-- A feed's references: its path set names measured paths, its pin and lead are members (R79, R80, R90). -/
def State.RefersLive (s : State) (f : Feed) : Prop :=
  (∀ i : PathSlot, f.out.pathSet.mem i.val = true → (s.paths.get i).measured = true)
  ∧ (∀ i : PathSlot, f.out.pin = some i → f.out.pathSet.mem i.val = true)
  ∧ ∀ i : PathSlot, f.out.lead = some i → f.out.pathSet.mem i.val = true

theorem State.referencesLive_iff {s : State} : s.ReferencesLive ↔ ∀ k : FeedSlot, (s.feeds.get k).sends → s.RefersLive (s.feeds.get k) := .rfl

/-- A feed changed within its opening: its identity the same, its references sound, its too-old run below 4. -/
structure Feed.Kept (s : State) (f g : Feed) : Prop where
  opened : g.opened = f.opened
  direction : g.direction = f.direction
  number : g.number = f.number
  refers : f.sends → s.RefersLive f → s.RefersLive g
  tooOld : f.inb.window.tooOldRun ≤ 3 → g.inb.window.tooOldRun ≤ 3

theorem Feed.Kept.refl (s : State) (f : Feed) : f.Kept s f := ⟨rfl, rfl, rfl, fun _ h => h, id⟩

theorem Feed.Kept.sends_iff {s : State} {f g : Feed} (h : f.Kept s g) : g.sends ↔ f.sends := by
  rw [Feed.sends, Feed.sends, h.opened, h.direction]

/-! ### A table after one record was changed -/

/-- A relation that holds of a table with itself holds after one record was changed along it. -/
theorem Table.get_modify_of {α : Type} {n : Nat} {r : α → α → Prop} (refl : ∀ a, r a a) {t : Table α n} {i : Fin n} {f : α → α}
    (h : r (t.get i) (f (t.get i))) (k : Fin n) : r (t.get k) ((t.modify i f).get k) := by
  rw [Table.get_modify]
  split
  · next e => subst e; exact h
  · exact refl _

/-! ### Changes of several parts that owe nothing -/

section Parts
variable {s t : State}

/-- The pool is whole after a change that keeps the free cells and each line's frames. -/
theorem State.PoolWhole.congr (h : s.PoolWhole) (cells : t.freeCells = s.freeCells) (frames : ∀ l, (t.lines.get l).frames = (s.lines.get l).frames) :
    t.PoolWhole := by
  unfold State.PoolWhole State.cellsQueued at *
  simp only [cells, frames]
  exact h

/-- Identities are unique after a change that keeps those of the paths outside VACANT. -/
theorem State.IdentitiesUnique.mono (h : s.IdentitiesUnique)
    (paths : ∀ i, (t.paths.get i).life ≠ .vacant → (s.paths.get i).life ≠ .vacant ∧ (t.paths.get i).line = (s.paths.get i).line ∧ (t.paths.get i).tag = (s.paths.get i).tag) :
    t.IdentitiesUnique := by
  intro i k hik hi hk
  obtain ⟨vi, li, ti⟩ := paths i hi
  obtain ⟨vk, lk, tk⟩ := paths k hk
  rw [li, ti, lk, tk]
  exact h i k hik vi vk

/-- Queues stay counted after a change that keeps identities, counts and frames. -/
theorem State.QueuesCounted.congr (h : s.QueuesCounted) (life : ∀ i, (t.paths.get i).life = .vacant ↔ (s.paths.get i).life = .vacant)
    (line : ∀ i, (t.paths.get i).line = (s.paths.get i).line) (tag : ∀ i, (t.paths.get i).tag = (s.paths.get i).tag)
    (queued : ∀ i, (t.paths.get i).queued = (s.paths.get i).queued)
    (frames : ∀ l, (t.lines.get l).frames = (s.lines.get l).frames) : t.QueuesCounted := by
  obtain ⟨count, named⟩ := h
  refine ⟨fun i hi => ?_, fun l f hf => ?_⟩
  · have old := count i fun e => hi ((life i).2 e)
    rw [queued, line, tag, old, LinePort.framesOf, LinePort.framesOf, frames]
  · obtain ⟨i, hi, hl, ht⟩ := named l f (frames l ▸ hf)
    exact ⟨i, fun e => hi ((life i).1 e), (line i).trans hl, (tag i).trans ht⟩

/-- A change of parts that owes nothing but to the pool and the queues keeps every invariant when it keeps these two; each part not named stays as it was. -/
theorem State.Keeps.of_queues
    (pool : s.PoolWhole → t.PoolWhole)
    (queues : s.IdentitiesUnique ∧ s.QueuesCounted → t.IdentitiesUnique ∧ t.QueuesCounted)
    (su : t.su = s.su := by rfl)
    (off : t.off = s.off := by rfl)
    (latch : t.nu.latch = s.nu.latch := by rfl)
    (queued : t.nu.queued = s.nu.queued := by rfl)
    (paths : ∀ i, (s.paths.get i).Cared s.settings (t.paths.get i) := by exact fun _ => .refl _ _)
    (lines : ∀ l, (s.lines.get l).Held (t.lines.get l) := by exact fun _ => .refl _)
    (feeds : ∀ k, (s.feeds.get k).Kept s (t.feeds.get k) := by exact fun _ => .refl _ _)
    (fifos : ∀ p, (s.ports.get p).fifo.length ≤ 64 → (t.ports.get p).fifo.length ≤ 64 := by exact fun _ h => h)
    (settings : s.settings.InRange → t.settings.InRange := by exact id)
    (time : t.tb = s.tb := by rfl) : s.Keeps t where
  time := time
  pool := pool
  queues := queues
  soundings := by
    rintro ⟨contexts, due, quiet⟩
    refine ⟨fun c x hx => ?_, fun i => ?_, fun ht c => ?_⟩
    · obtain ⟨hm, hl, ht, hc⟩ := contexts c x (su ▸ hx)
      exact ⟨(paths _).measured.trans hm, ((paths _).line hm).trans hl, ((paths _).tag hm).trans ht, (lines _).carrier hc⟩
    · rw [su, (paths i).measured]
      exact due i
    · rw [su]
      exact quiet (off ▸ ht) c
  feeds := by
    rintro ⟨numbers, refs⟩
    refine ⟨fun i k hik hi hk => ?_, fun k hk => ?_⟩
    · rw [(feeds i).opened] at hi
      rw [(feeds k).opened] at hk
      rw [(feeds i).direction, (feeds k).direction, (feeds i).number, (feeds k).number]
      exact numbers i k hik hi hk
    · have old := (feeds k).sends_iff.1 hk
      obtain ⟨set, pin, lead⟩ := (feeds k).refers old (refs k old)
      exact ⟨fun i hi => (paths i).measured.trans (set i hi), pin, lead⟩
  notices := by
    rintro ⟨empty, other, named⟩
    refine ⟨?_, ?_, fun k hk => ?_⟩
    · rw [latch, queued]; exact empty
    · rw [latch, queued]; exact other
    · exact (feeds k).sends_iff.2 (named k (queued ▸ hk))
  ranges := by
    rintro ⟨⟨onLines, onPorts, onFeeds⟩, inSettings, inPaths, inTb⟩
    exact ⟨⟨fun l => ⟨(lines l).echoes (onLines l).1, (lines l).ratio (onLines l).2⟩, fun p => fifos p (onPorts p), fun k => (feeds k).tooOld (onFeeds k)⟩,
      settings inSettings, fun i => (paths i).range inSettings (inPaths i), time ▸ inTb⟩

/-- A change of parts that owes nothing keeps every invariant; each part not named stays as it was. -/
theorem State.Keeps.of_parts
    (cells : t.freeCells = s.freeCells := by rfl)
    (su : t.su = s.su := by rfl)
    (off : t.off = s.off := by rfl)
    (latch : t.nu.latch = s.nu.latch := by rfl)
    (queued : t.nu.queued = s.nu.queued := by rfl)
    (paths : ∀ i, (s.paths.get i).Kept s.settings (t.paths.get i) := by exact fun _ => .refl _ _)
    (lines : ∀ l, (s.lines.get l).Kept (t.lines.get l) := by exact fun _ => .refl _)
    (feeds : ∀ k, (s.feeds.get k).Kept s (t.feeds.get k) := by exact fun _ => .refl _ _)
    (fifos : ∀ p, (s.ports.get p).fifo.length ≤ 64 → (t.ports.get p).fifo.length ≤ 64 := by exact fun _ h => h)
    (settings : s.settings.InRange → t.settings.InRange := by exact id)
    (time : t.tb = s.tb := by rfl) : s.Keeps t :=
  .of_queues (fun h => h.congr cells fun l => (lines l).frames)
    (fun h => ⟨h.1.mono fun i hi => ⟨fun e => hi ((paths i).life.2 e), (paths i).line, (paths i).tag⟩, h.2.congr (fun i => (paths i).life) (fun i => (paths i).line) (fun i => (paths i).tag) (fun i => (paths i).queued) fun l => (lines l).frames⟩)
    su off latch queued (fun i => (paths i).cared) (fun l => (lines l).held) feeds fifos settings time

/-- A change of the sounding unit alone owes only what its own invariant asks. -/
theorem State.Keeps.of_su (s : State) (f : SoundingUnit → SoundingUnit) (h : s.SoundingsLive → (s.onSu f).SoundingsLive) : s.Keeps (s.onSu f) where
  time := rfl
  pool h := h
  queues h := h
  soundings := h
  feeds h := h
  notices h := h
  ranges h := h

/-- A change of the command port that neither enters nor leaves hardware reset. -/
theorem State.Keeps.onCmp (s : State) (f : CommandPort → CommandPort) (h : (f s.cmp).engine.off = s.cmp.engine.off) : s.Keeps (s.onCmp f) :=
  .of_parts (off := h)

/-- One path changed within its life. -/
theorem State.Keeps.onPath (s : State) (i : PathSlot) (f : Path → Path) (h : (s.paths.get i).Kept s.settings (f (s.paths.get i))) : s.Keeps (s.onPath i f) :=
  .of_parts (paths := Table.get_modify_of (r := Path.Kept s.settings) (.refl _) h)

/-- One line changed with its frames and its carrier. -/
theorem State.Keeps.onLine (s : State) (l : Line) (f : LinePort → LinePort) (h : (s.lines.get l).Kept (f (s.lines.get l))) : s.Keeps (s.onLine l f) :=
  .of_parts (lines := Table.get_modify_of (r := LinePort.Kept) .refl h)

/-- One feed changed within its opening. -/
theorem State.Keeps.onFeed (s : State) (k : FeedSlot) (f : Feed → Feed) (h : (s.feeds.get k).Kept s (f (s.feeds.get k))) : s.Keeps (s.onFeed k f) :=
  .of_parts (feeds := Table.get_modify_of (r := Feed.Kept s) (.refl _) h)

/-- A change of the notice unit that keeps the latch and the pending set. -/
theorem State.Keeps.onNu (s : State) (f : NoticeUnit → NoticeUnit) (latch : (f s.nu).latch = s.nu.latch) (queued : (f s.nu).queued = s.nu.queued) :
    s.Keeps (s.onNu f) := .of_parts (latch := latch) (queued := queued)

/-- A change of the time base and the core clock that keeps the time base's values in range. -/
theorem State.Preserves.of_time (s : State) (clock : Nat) (tb : TimeBase) (h : s.tb.InRange → tb.InRange) : s.Preserves { s with clock := clock, tb := tb } :=
  ⟨id, id, id, id, id, fun ⟨lists, settings, paths, inTb⟩ => ⟨lists, settings, paths, h inTb⟩⟩

/-- A change of the time base that keeps its values in range. -/
theorem State.Preserves.onTb (s : State) (f : TimeBase → TimeBase) (h : s.tb.InRange → (f s.tb).InRange) : s.Preserves (s.onTb f) := .of_time s s.clock (f s.tb) h

/-- Counts move no value with a range. -/
theorem State.Keeps.countLine (s : State) (l : Line) (f : LineCounters → LineCounters) : s.Keeps (s.countLine l f) := .onLine _ _ _ ⟨rfl, id, id, id⟩

theorem State.Keeps.countPath (s : State) (i : PathSlot) (f : PathCounters → PathCounters) : s.Keeps (s.countPath i f) :=
  .onPath _ _ _ ⟨.rfl, rfl, rfl, rfl, rfl, fun _ h => h⟩

theorem State.Keeps.countPort (s : State) (p : Port) (f : PortCounters → PortCounters) : s.Keeps (s.countPort p f) :=
  .of_parts (fifos := Table.get_modify_of (r := fun a b : LocalPort => a.fifo.length ≤ 64 → b.fifo.length ≤ 64) (fun _ h => h) id)

theorem State.Keeps.countOut (s : State) (k : FeedSlot) (f : OutCounters → OutCounters) : s.Keeps (s.countOut k f) :=
  .onFeed _ _ _ ⟨rfl, rfl, rfl, fun _ h => h, id⟩

theorem State.Keeps.countInb (s : State) (k : FeedSlot) (f : InCounters → InCounters) : s.Keeps (s.countInb k f) :=
  .onFeed _ _ _ ⟨rfl, rfl, rfl, fun _ h => h, id⟩

/-! ### Events -/

theorem NoticeUnit.raisePaths_latch (n : NoticeUnit) (k : PathEvent) (who : FlagSet 32) : (n.raisePaths k who).latch = n.latch := by
  unfold NoticeUnit.raisePaths; split <;> rfl

theorem NoticeUnit.raisePaths_queued (n : NoticeUnit) (k : PathEvent) (who : FlagSet 32) : (n.raisePaths k who).queued = n.queued := by
  unfold NoticeUnit.raisePaths; split <;> rfl

theorem State.Keeps.raisePaths (s : State) (k : PathEvent) (who : FlagSet 32) : s.Keeps (s.raisePaths k who) :=
  .onNu _ _ (s.nu.raisePaths_latch k who) (s.nu.raisePaths_queued k who)

theorem State.Keeps.raisePath (s : State) (k : PathEvent) (i : PathSlot) : s.Keeps (s.raisePath k i) := .onNu _ _ rfl rfl

theorem State.Keeps.raiseLine (s : State) (k : LineEvent) (l : Line) : s.Keeps (s.raiseLine k l) := .onNu _ _ rfl rfl

theorem State.Keeps.raiseFeed (s : State) (k : FeedEvent) (i : FeedSlot) : s.Keeps (s.raiseFeed k i) := .onNu _ _ rfl rfl

theorem State.Keeps.raisePlain (s : State) (k : PlainEvent) : s.Keeps (s.raisePlain k) := .onNu _ _ rfl rfl

end Parts

end Sys2Proof.Machine
end

section
/-! The invariants through the transmitters and the sounding unit: frame boundaries, the service of due paths, contexts freed, and results (R26 to R40, R104 to R107). -/

namespace Sys2Proof.Machine

/-! ### Frame boundaries -/

/-- The start of an ECHO on an IDLE line. -/
theorem State.Keeps.startEcho (s : State) (l : Line) (e : EchoEntry) (rest : List EchoEntry) (idle : (s.lines.get l).tx = none)
    (head : (s.lines.get l).echoes = e :: rest) : s.Keeps (s.startEcho l e rest) := by
  refine .onLine _ _ _ ⟨LinePort.frames_control idle rfl rfl fun _ => rfl, id, fun h => ?_, id⟩
  rw [head, List.length_cons] at h
  exact Nat.le_of_succ_le h

/-- The sounding unit's invariant after a change in which each context stands for one that stood, and no path newly falls due or waits. -/
theorem State.SoundingsLive.mono {s : State} (h : s.SoundingsLive) (u : SoundingUnit)
    (contexts : ∀ c x, u.contexts.get c = some x → ∃ y, s.su.contexts.get c = some y ∧ y.path = x.path ∧ y.line = x.line ∧ y.tag = x.tag)
    (due : ∀ i : PathSlot, u.due.mem i.val = true → s.su.due.mem i.val = true)
    (waiting : ∀ i : PathSlot, u.waiting.mem i.val = true → s.su.waiting.mem i.val = true ∧ (s.su.due.mem i.val = true → u.due.mem i.val = true)) :
    (s.onSu fun _ => u).SoundingsLive := by
  obtain ⟨live, measured, quiet⟩ := h
  refine ⟨fun c x hx => ?_, fun i => ⟨fun hi => (measured i).1 (due i hi), fun hi => ?_⟩, fun ho c => ?_⟩
  · obtain ⟨y, hy, hp, hl, ht⟩ := contexts c x hx
    have := live c y hy
    rwa [hp, hl, ht] at this
  · obtain ⟨old, stays⟩ := waiting i hi
    exact stays ((measured i).2 old)
  · cases hc : u.contexts.get c with
    | none => exact hc
    | some x =>
      obtain ⟨y, hy, -⟩ := contexts c x hc
      rw [quiet ho c] at hy
      cases hy

/-- The departure of a SOUND keeps its context's path, line and tag (R30). -/
theorem State.Keeps.depart (s : State) (c : ContextId) (x : Context) (time : Stamp) (h : s.su.contexts.get c = some x) :
    s.Keeps (s.onSu fun u => { u with contexts := u.contexts.set c (some (x.depart time)) }) := by
  refine .of_su _ _ fun live => live.mono _ (fun m y hy => ?_) (fun _ => id) fun _ hi => ⟨hi, id⟩
  dsimp only at hy
  rw [Table.get_set] at hy
  split at hy
  · next e => subst e; cases hy; exact ⟨x, h, rfl, rfl, rfl⟩
  · exact ⟨y, hy, rfl, rfl, rfl⟩

/-- The start of a SOUND on an IDLE line. -/
theorem State.Keeps.startSound (s : State) (l : Line) (e : SoundEntry) (rest : List SoundEntry) (idle : (s.lines.get l).tx = none) :
    s.Keeps (s.startSound l e rest) := by
  have sends : s.Keeps (s.onLine l fun p => { p with sounds := rest, tx := some (p.sending s.clock (.sound e.tag e.id) 1) }) :=
    .onLine _ _ _ ⟨LinePort.frames_control idle rfl rfl fun _ => rfl, id, id, id⟩
  unfold State.startSound
  dsimp only
  split
  · exact sends
  · next c hc => exact sends.trans ((State.Keeps.depart _ _ c _ hc).trans (.countPath _ _ _))

theorem Ratio.limit_le {r : Ratio} {n : Nat} (h : r.limit = some n) : n ≤ 8 := by
  cases r <;> cases h <;> decide

/-- An URGENT frame is chosen before a waiting NORMAL one only while the ratio counter is below the ratio (R105). -/
theorem LinePort.ratioAfter_le {p : LinePort} {c : Urgency} (chosen : p.choose = some c) : p.ratioAfter c ≤ 8 := by
  unfold LinePort.ratioAfter
  cases hr : p.ratio.limit with
  | none => exact Nat.zero_le 8
  | some n =>
    cases c with
    | normal => exact Nat.zero_le 8
    | urgent =>
      have := Ratio.limit_le hr
      cases hn : p.normal with
      | nil => exact Nat.zero_le 8
      | cons f rest =>
        unfold LinePort.choose at chosen
        rw [hr, hn] at chosen
        cases hu : p.urgent with
        | nil => simp [hu] at chosen
        | cons g more =>
          simp only [hu] at chosen
          split at chosen
          · cases chosen
          · simp only [reduceCtorEq, if_false]
            omega

/-- The start of a queued frame on an IDLE line keeps its frames, and its ratio counter at most 8 (R99, R105, R106). -/
theorem LinePort.startTraffic_kept {p : LinePort} (idle : p.tx = none) (clock : Nat) {c : Urgency} (chosen : p.choose = some c) :
    p.Kept (p.startTraffic clock c) := by
  have alike := LinePort.startTraffic_alike idle clock c
  refine ⟨alike.frames, fun h => ?_, ?_, ?_⟩
  · rw [LinePort.carrier, alike.grade]
    exact h
  · unfold LinePort.startTraffic
    split <;> exact id
  · have := LinePort.ratioAfter_le chosen
    unfold LinePort.startTraffic
    split
    · exact fun _ => this
    · exact fun _ => this
    · exact id

/-- The start that an IDLE line chooses. -/
theorem State.Keeps.startNext (s : State) (l : Line) (idle : (s.lines.get l).tx = none) : s.Keeps (s.startNext l) := by
  unfold State.startNext
  split
  · next e rest head => exact .startEcho s l e rest idle head
  · exact .startSound s l _ _ idle
  · next c _ _ chosen => exact .onLine _ _ _ (LinePort.startTraffic_kept idle _ chosen)
  · exact .refl s

/-- A line whose NORMAL queue may have run empty: its ratio counter is 0 then (R106). -/
def LinePort.settled (p : LinePort) : LinePort := if p.normal = [] then { p with ratioCount := 0 } else p

theorem LinePort.settled_tx (p : LinePort) : p.settled.tx = p.tx := by unfold LinePort.settled; split <;> rfl

theorem LinePort.settled_kept (p : LinePort) : p.Kept p.settled := by
  unfold LinePort.settled
  split
  · exact ⟨rfl, id, id, fun _ => Nat.zero_le 8⟩
  · exact .refl p

/-- What a line reaching a frame boundary can do (R104, R106). -/
theorem State.boundary_cases (s : State) (l : Line) :
    (((s.lines.get l).tx ≠ none ∨ s.resetting = true) ∧ s.boundary l = s)
    ∨ ((s.lines.get l).tx = none ∧ s.resetting = false ∧ (s.lines.get l).usable = false ∧ s.boundary l = s.onLine l LinePort.settled)
    ∨ ((s.lines.get l).tx = none ∧ s.resetting = false ∧ (s.lines.get l).usable = true
        ∧ s.boundary l = (s.onLine l LinePort.settled).startNext l) := by
  have usable : ((s.onLine l LinePort.settled).lines.get l).usable = (s.lines.get l).usable := by
    rw [State.onLine_lines, Table.get_modify_self, LinePort.settled]
    split <;> rfl
  have unfolded : s.boundary l = if (s.lines.get l).tx.isSome || s.resetting then s
      else if ((s.onLine l LinePort.settled).lines.get l).usable then (s.onLine l LinePort.settled).startNext l else s.onLine l LinePort.settled := rfl
  rw [unfolded, usable]
  cases ht : (s.lines.get l).tx with
  | some x => exact .inl ⟨.inl (by simp), by simp⟩
  | none =>
    cases hr : s.resetting with
    | true => exact .inl ⟨.inr rfl, by simp⟩
    | false =>
      cases hu : (s.lines.get l).usable with
      | true => exact .inr (.inr ⟨rfl, rfl, rfl, by simp⟩)
      | false => exact .inr (.inl ⟨rfl, rfl, rfl, by simp⟩)

/-- A frame boundary keeps the invariants (R104). -/
theorem State.Keeps.boundary (s : State) (l : Line) : s.Keeps (s.boundary l) := by
  have settles : s.Keeps (s.onLine l LinePort.settled) := .onLine _ _ _ (LinePort.settled_kept _)
  obtain ⟨-, h⟩ | ⟨-, -, -, h⟩ | ⟨idle, -, -, h⟩ := s.boundary_cases l <;> rw [h]
  · exact .refl s
  · exact settles
  · refine settles.trans (.startNext _ l ?_)
    rw [State.onLine_lines, Table.get_modify_self, LinePort.settled_tx, idle]

/-! ### The service of due paths -/

/-- An issue puts the path, which is measured and on a line with carrier, in a context, and takes it from the schedule (R23, R26). -/
theorem State.SoundingsLive.issue {s : State} (h : s.SoundingsLive) (running : s.resetting = false) {i : PathSlot} (c : ContextId) (can : s.canIssue i = true) (micros : Nat) :
    (s.onSu fun u => u.issue i c (s.paths.get i) micros).SoundingsLive := by
  obtain ⟨live, measured, quiet⟩ := h
  obtain ⟨due, usable⟩ := Bool.and_eq_true_iff.1 can
  obtain ⟨carrier, -⟩ := Bool.and_eq_true_iff.1 usable
  refine ⟨fun m x hx => ?_, fun k => ?_, fun ho => ?_⟩
  · simp only [State.onSu_su, SoundingUnit.issue, Table.get_set] at hx
    split at hx
    · cases hx; exact ⟨(measured i).1 due, rfl, rfl, carrier⟩
    · exact live m x hx
  · simp only [State.onSu_su, SoundingUnit.issue, FlagSet.mem_erase_fin, Bool.and_eq_true]
    exact ⟨fun hk => (measured k).1 hk.1, fun hk => ⟨(measured k).2 hk.1, hk.2⟩⟩
  · have off : s.off = false := by
      unfold State.off; unfold State.resetting at running
      cases he : s.cmp.engine <;> simp [he, Engine.resetting, Engine.off] at running ⊢
    exact absurd (show s.off = true from ho) (by simp [off])

/-- A deferral puts a due path on the waiting list (R28). -/
theorem State.SoundingsLive.defer {s : State} (h : s.SoundingsLive) {i : PathSlot} (can : s.canIssue i = true) :
    (s.onSu fun u => { u with waiting := u.waiting.insert i.val }).SoundingsLive := by
  obtain ⟨live, measured, quiet⟩ := h
  obtain ⟨due, -⟩ := Bool.and_eq_true_iff.1 can
  refine ⟨live, fun k => ⟨(measured k).1, fun hk => ?_⟩, quiet⟩
  simp only [State.onSu_su, FlagSet.mem_insert_fin, Bool.or_eq_true, decide_eq_true_eq] at hk
  obtain hk | rfl := hk
  · exact (measured k).2 hk
  · exact due

/-- A line with a SOUND more in its control slot. -/
theorem State.Keeps.addSound (s : State) (l : Line) (e : SoundEntry) : s.Keeps (s.onLine l fun p => { p with sounds := p.sounds ++ [e] }) :=
  .onLine _ _ _ ⟨rfl, id, id, id⟩

/-- Serving one path outside RESETTING keeps the invariants (R26, R28). -/
theorem State.Keeps.servePath (s : State) (i : PathSlot) (running : s.resetting = false) : s.Keeps (s.servePath i) := by
  obtain ⟨-, h⟩ | ⟨can, c, -, h⟩ | ⟨-, -, -, h⟩ | ⟨can, -, -, h⟩ := s.servePath_cases i <;> rw [h]
  · exact .refl s
  · exact (State.Keeps.of_su _ _ fun live => live.issue running c can _).trans ((State.Keeps.addSound _ _ _).trans (.boundary _ _))
  · exact .refl s
  · exact (State.Keeps.of_su _ _ fun live => live.defer can).trans (.countPath _ _ _)

/-- What only sends leaves the port alone. -/
theorem State.OnlySends.cmp {s t : State} (h : s.OnlySends t) : t.cmp = s.cmp := by rw [h.rest]

/-- Serving paths one after another outside RESETTING keeps the invariants. -/
theorem State.Keeps.serveAll (l : List PathSlot) (s : State) (running : s.resetting = false) : s.Keeps (l.foldl State.servePath s) := by
  induction l generalizing s with
  | nil => exact .refl s
  | cons i l ih =>
    refine (State.Keeps.servePath s i running).trans (ih _ ?_)
    rw [State.resetting, (s.servePath_onlySends i).cmp]
    exact running

/-- The service of the due paths keeps the invariants (R26 to R29). -/
theorem State.Keeps.serve (s : State) : s.Keeps s.serve := by
  unfold State.serve
  cases h : s.resetting with
  | true => exact .refl s
  | false => exact .serveAll _ s h

/-! ### Contexts freed -/

/-- Contexts freed, and the SOUNDs of a line filtered (R36). -/
theorem State.Keeps.voidContexts (s : State) (which : Context → Bool) : s.Keeps (s.voidContexts which) := by
  have lines (l : Line) : (s.lines.get l).Kept ((s.voidContexts which).lines.get l) := by
    rw [State.voidContexts_lines]
    exact ⟨rfl, id, id, id⟩
  have onLines : s.Keeps { s with lines := (s.voidContexts which).lines } := .of_parts (lines := lines)
  refine onLines.trans (.of_su _ (fun _ => (s.voidContexts which).su) fun live => live.mono _ (fun c x hx => ?_) (fun _ => id) fun _ hi => ⟨hi, id⟩)
  rw [State.voidContexts_contexts, Option.filter_eq_some_iff] at hx
  exact ⟨x, hx.1, rfl, rfl, rfl⟩

/-- One context freed (R23). -/
theorem State.Keeps.free (s : State) (c : ContextId) : s.Keeps (s.onSu (·.free c)) := by
  refine .of_su _ _ fun live => live.mono _ (fun m x hx => ?_) (fun _ => id) fun _ hi => ⟨hi, id⟩
  rw [SoundingUnit.free, Table.get_set] at hx
  split at hx
  · cases hx
  · exact ⟨x, hx, rfl, rfl, rfl⟩

/-- A jump of TIME keeps the invariants (R142). -/
theorem State.Keeps.jump (s : State) : s.Keeps s.jump := by
  refine (State.Keeps.voidContexts s _).trans (.trans (.of_parts (lines := fun l => ?_)) (.serve _))
  rw [Table.get_map]
  exact ⟨rfl, id, fun h => by rwa [LinePort.voidEchoes, List.length_map], id⟩

/-! ### Results of soundings -/

/-- E after an update lies between E and the sample (R48). -/
theorem nextE_le {k e x bound : Nat} (he : e ≤ bound) (hx : x ≤ bound) : nextE k e x ≤ bound := by
  unfold nextE
  have hp : (0 : Int) < 2 ^ k := by positivity
  obtain h | h := le_total (0 : Int) ((x : Int) - e)
  · have hd : ((x : Int) - e).tdiv (2 ^ k) ≤ (x : Int) - e := by
      rw [Int.tdiv_eq_ediv_of_nonneg h]
      exact Int.ediv_le_self _ h
    omega
  · have hd : ((x : Int) - e).tdiv (2 ^ k) ≤ 0 := by
      rw [← neg_nonneg, ← Int.neg_tdiv]
      exact Int.tdiv_nonneg (by omega) hp.le
    omega

theorem nextJ_le (j d : Nat) : nextJ j d ≤ 16000000 := by
  have := (clampInt_mem (lo := 0) (hi := Config.maxJitter) (by decide) ((j : Int) + ((d : Int) - j).tdiv 16)).2
  unfold nextJ
  have hm : (Config.maxJitter : Int) = 16000000 := rfl
  omega

/-- What a sample can leave of a path: its identity and life as they were, its estimate in range (R44 to R50). -/
structure Path.Estimated (p q : Path) : Prop where
  life : q.life = p.life
  line : q.line = p.line
  tag : q.tag = p.tag
  tuning : q.tuning = p.tuning
  queued : q.queued = p.queued
  goodCount : q.goodCount = p.goodCount
  e : p.e ≤ 320000000 → q.e ≤ 320000000
  j : p.j ≤ 16000000 → q.j ≤ 16000000

theorem Path.update_estimated (p : Path) {x : Nat} (hx : x ≤ 320000000) : p.Estimated (p.update x) :=
  ⟨rfl, rfl, rfl, rfl, rfl, rfl, fun he => nextE_le he hx, fun _ => nextJ_le _ _⟩

theorem Path.seed_estimated (p : Path) {x : Nat} (hx : x ≤ 320000000) : p.Estimated (p.seed x) :=
  ⟨rfl, rfl, rfl, rfl, rfl, rfl, fun _ => hx, fun _ => Nat.zero_le _⟩

theorem Path.outlier_estimated (p : Path) {x : Nat} (hx : x ≤ 320000000) : p.Estimated (p.outlier x) := by
  unfold Path.outlier
  dsimp only
  split
  · exact ⟨rfl, rfl, rfl, rfl, rfl, rfl, id, id⟩
  · exact ⟨rfl, rfl, rfl, rfl, rfl, rfl, fun _ => hx, fun _ => Nat.zero_le _⟩

theorem Path.applyTrial_estimated (p : Path) {x : Nat} (hx : x ≤ 320000000) : p.Estimated (p.applyTrial x) := by
  unfold Path.applyTrial
  split
  · exact p.update_estimated hx
  · exact p.seed_estimated hx
  · exact p.seed_estimated hx

theorem Path.applyService_estimated (p : Path) {x : Nat} (hx : x ≤ 320000000) : p.Estimated (p.applyService x) := by
  unfold Path.applyService
  split
  · split
    · exact p.outlier_estimated hx
    · exact p.update_estimated hx
  · exact p.seed_estimated hx
  · exact p.seed_estimated hx

/-- A path of the same life after a sample. -/
theorem Path.Estimated.kept {p q : Path} (h : p.Estimated q) (set : Settings) : p.Kept set q where
  life := by rw [h.life]
  measured := by rw [Path.measured, Path.measured, h.life]
  line := h.line
  tag := h.tag
  queued := h.queued
  range := by
    rintro - ⟨tuning, e, j, good, trial⟩
    rw [Path.InRange, h.tuning, h.goodCount, h.life]
    exact ⟨tuning, h.e e, h.j j, good, trial⟩

/-- A path in TRIAL that stays so or enters service, with its good count raised to at most the trial count (R6, R7). -/
theorem Path.trialGood_kept {p : Path} (trial : p.life = .trial) (set : Settings) {sample : Nat} (h : sample ≤ 20000000) :
    p.Kept set (p.trialGood set.trialCount sample).path := by
  have applied := p.applyTrial_estimated (x := sample * 16) (by omega)
  unfold Path.trialGood
  dsimp only
  split
  · refine ⟨by simp [trial], by simp [Path.measured, trial], applied.line, applied.tag, applied.queued, ?_⟩
    rintro inSet ⟨tuning, e, j, good, count⟩
    have := count trial
    exact ⟨by rw [applied.tuning]; exact tuning, applied.e e, applied.j j, by dsimp only; omega, by simp⟩
  · next below =>
    refine ⟨by simp [applied.life], by simp [Path.measured, applied.life], applied.line, applied.tag, applied.queued, ?_⟩
    rintro inSet ⟨tuning, e, j, good, count⟩
    have limit : set.trialCount ≤ 64 := inSet.2.1
    exact ⟨by rw [applied.tuning]; exact tuning, applied.e e, applied.j j, by dsimp only; omega, fun _ => by dsimp only; omega⟩

/-- A result whose sample, if it has one, lies in the range of R34. -/
def SoundResult.InRange : SoundResult → Prop
  | .valid sample => sample ≤ 20000000
  | .lost => True

theorem Path.trialBad_kept (p : Path) (set : Settings) : p.Kept set p.trialBad.path :=
  ⟨.rfl, rfl, rfl, rfl, rfl, fun _ h => ⟨h.1, h.2.1, h.2.2.1, Nat.zero_le _, fun _ => Nat.zero_le _⟩⟩

/-- A path that takes a result (R6, R35, R43). -/
theorem Path.takeResult_kept (p : Path) (set : Settings) {r : SoundResult} (hr : r.InRange) : p.Kept set (p.takeResult set r).path := by
  unfold Path.takeResult
  split
  · next x trial =>
    split
    · exact Path.trialGood_kept trial set hr
    · exact p.trialBad_kept set
  · exact p.trialBad_kept set
  · next x => exact (p.applyService_estimated (Nat.mul_le_mul_right 16 hr)).kept set
  · next x => exact (p.applyService_estimated (Nat.mul_le_mul_right 16 hr)).kept set
  · exact .refl set p

/-- The weather of a path moves nothing that an invariant speaks of. -/
theorem Path.Kept.weather {set : Settings} {p q : Path} (h : p.Kept set q) (w : WeatherRecord) : p.Kept set { q with weather := w } :=
  ⟨h.life, h.measured, h.line, h.tag, h.queued, h.range⟩

/-- A result handed to PT and WM keeps the invariants (R35). -/
theorem State.Keeps.handResult (s : State) (i : PathSlot) {r : SoundResult} (hr : r.InRange) : s.Keeps (s.handResult i r) := by
  have path := State.Keeps.onPath s i (fun _ => { ((s.paths.get i).takeResult s.settings r).path with
    weather := if (s.paths.get i).measured then (s.paths.get i).weather.countResult r else (s.paths.get i).weather })
    (((s.paths.get i).takeResult_kept s.settings hr).weather _)
  unfold State.handResult
  dsimp only
  split
  · exact path
  · exact path.trans (.raisePath _ _ _)

/-- A context lost keeps the invariants (R31). -/
theorem State.Keeps.lose (s : State) (c : ContextId) (x : Context) : s.Keeps (s.lose c x) :=
  (State.Keeps.free s c).trans ((State.Keeps.countPath _ _ _).trans ((State.Keeps.handResult _ _ (r := .lost) trivial).trans (.serve _)))

/-- A one-way sample lies in its range (R34). -/
theorem oneWay_le (rt asymmetry : Int) : oneWay rt asymmetry ≤ 20000000 := by
  have := (clampInt_mem (lo := 0) (hi := Config.maxDelay) (by decide) ((rt + 1) / 2 + asymmetry)).2
  unfold oneWay
  have hm : (Config.maxDelay : Int) = 20000000 := rfl
  omega

theorem State.Keeps.echoResult (s : State) (line : Line) (i : PathSlot) (rt : Int) : s.Keeps (s.echoResult line i rt) := by
  unfold State.echoResult
  split
  · exact .countLine _ _ _
  · exact (State.Keeps.countPath _ _ _).trans (.handResult _ _ (oneWay_le _ _))

/-- An ECHO taken keeps the invariants (R32 to R34). -/
theorem State.Keeps.takeEcho (s : State) (line : Line) (t4 : Stamp) (tag : BitVec 12) (id : BitVec 16) (voided : Bool) (r : Nat) :
    s.Keeps (s.takeEcho line t4 tag id voided r) := by
  unfold State.takeEcho
  split
  · exact .countLine _ _ _
  · next c t1 _ =>
    split
    · exact .refl s
    · next x _ =>
      refine (State.Keeps.free s c).trans (.trans ?_ (.serve _))
      split
      · exact .refl _
      · exact .echoResult _ _ _ _

/-- A SOUND taken keeps the invariants (R37). -/
theorem State.Keeps.takeSound (s : State) (line : Line) (t2 : Stamp) (tag : BitVec 12) (code : BitVec 16) : s.Keeps (s.takeSound line t2 tag code) := by
  unfold State.takeSound
  split
  · next room =>
    refine .trans (.onLine _ _ _ ⟨rfl, id, fun _ => ?_, id⟩) (.boundary _ _)
    rw [List.length_append]
    exact room
  · exact .countLine _ _ _

end Sys2Proof.Machine
end

section
/-! The invariants through the line queues, path withdrawal and carrier loss (R12 to R15, R66, R98 to R110), and through selection and arbitration (chapters 5 and 7). -/

namespace Sys2Proof.Machine

/-! ### One line's frames in the pool -/

theorem State.cellsQueued_eq_sum (s : State) : s.cellsQueued = ∑ l : Line, queueCells (s.lines.get l).frames := (Fin.sum_univ_def _).symm

/-- The cells queued after a change of one line: its new ones in place of its old ones. -/
theorem State.cellsQueued_onLine (s : State) (l : Line) (f : LinePort → LinePort) :
    (s.onLine l f).cellsQueued + queueCells (s.lines.get l).frames = s.cellsQueued + queueCells (f (s.lines.get l)).frames := by
  have others : ∑ m ∈ Finset.univ.erase l, queueCells ((s.onLine l f).lines.get m).frames = ∑ m ∈ Finset.univ.erase l, queueCells (s.lines.get m).frames :=
    Finset.sum_congr rfl fun m hm => by rw [State.onLine_lines, Table.get_modify_ne _ (Finset.ne_of_mem_erase hm)]
  have old := Finset.add_sum_erase Finset.univ (fun m => queueCells (s.lines.get m).frames) (Finset.mem_univ l)
  have new := Finset.add_sum_erase Finset.univ (fun m => queueCells ((s.onLine l f).lines.get m).frames) (Finset.mem_univ l)
  beta_reduce at old new
  rw [others, State.onLine_lines, Table.get_modify_self] at new
  have before := s.cellsQueued_eq_sum.trans old.symm
  have after := (s.onLine l f).cellsQueued_eq_sum.trans new.symm
  rw [before, after]
  ring

theorem queueCells_perm {a b : List QueuedFrame} (h : a.Perm b) : queueCells a = queueCells b := (h.map _).sum_eq

theorem queueCells_cons (f : QueuedFrame) (q : List QueuedFrame) : queueCells (f :: q) = f.cells + queueCells q := by simp [queueCells]

/-- The frames of a tag on a line with one frame more. -/
theorem LinePort.framesOf_of_perm {p q : LinePort} {f : QueuedFrame} (h : q.frames.Perm (f :: p.frames)) (tag : BitVec 12) :
    q.framesOf tag = p.framesOf tag + if f.copy.tag = tag then 1 else 0 := by
  rw [LinePort.framesOf, LinePort.framesOf, (h.filter _).length_eq, List.filter_cons]
  simp only [decide_eq_true_eq]
  split
  · rw [List.length_cons]
  · rfl

theorem LinePort.framesOf_congr {p q : LinePort} (h : q.frames = p.frames) (tag : BitVec 12) : q.framesOf tag = p.framesOf tag := by
  rw [LinePort.framesOf, LinePort.framesOf, h]

/-- A frame at the tail of its queue is one frame more on the line (R101). -/
theorem LinePort.append_frames (p : LinePort) (f : QueuedFrame) : (p.append f).frames.Perm (f :: p.frames) := by
  unfold LinePort.append
  cases f.copy.urgency with
  | urgent =>
    have h : p.sendingFrom .urgent ++ (p.urgent ++ [f]) ++ p.queue .normal = (p.sendingFrom .urgent ++ p.urgent) ++ (f :: p.queue .normal) := by simp
    exact (List.Perm.of_eq h).trans List.perm_middle
  | normal =>
    have h : p.queue .urgent ++ (p.sendingFrom .normal ++ (p.normal ++ [f])) = (p.queue .urgent ++ (p.sendingFrom .normal ++ p.normal)) ++ [f] := by simp
    exact (List.Perm.of_eq h).trans (List.perm_append_singleton f _)

/-- A traffic frame in transmission is one frame more than those the line has without it (R99). -/
theorem LinePort.frames_of_sending {p : LinePort} {x : Sending} {q : Urgency} {f : QueuedFrame} (h : p.tx = some x) (item : x.item = .traffic q f) :
    p.frames.Perm (f :: ({ p with tx := none } : LinePort).frames) := by
  obtain ⟨i, cells, time, started, bytes⟩ := x
  cases item
  rw [LinePort.frames_idle (p := { p with tx := none }) rfl]
  cases q with
  | urgent => simp [LinePort.frames, LinePort.queue, LinePort.sendingFrom, LinePort.waiting, h]
  | normal =>
    have e : p.frames = p.urgent ++ f :: p.normal := by simp [LinePort.frames, LinePort.queue, LinePort.sendingFrom, LinePort.waiting, h]
    exact e ▸ List.perm_middle

/-- A control frame in transmission is none of a line's frames. -/
theorem LinePort.frames_of_control {p : LinePort} {x : Sending} (h : p.tx = some x) (item : ∀ q f, x.item ≠ .traffic q f) :
    ({ p with tx := none } : LinePort).frames = p.frames := by
  obtain ⟨i, cells, time, started, bytes⟩ := x
  cases i with
  | sound => simp [LinePort.frames, LinePort.queue, LinePort.sendingFrom, LinePort.waiting, h]
  | echo => simp [LinePort.frames, LinePort.queue, LinePort.sendingFrom, LinePort.waiting, h]
  | traffic q f => exact absurd rfl (item q f)

/-! ### A frame that joins a queue -/

/-- The units after a copy is admitted, before the boundary that follows (R101). -/
def State.admitted (s : State) (c : Copy) (i : PathSlot) : State :=
  { s with
    lines := s.lines.modify c.line (·.append c.queued)
    freeCells := s.freeCells - c.queued.cells
    paths := s.paths.modify i fun p => { p with queued := p.queued + 1 } }

theorem State.enqueue_eq (s : State) (c : Copy) (i : PathSlot) : s.enqueue c i = (s.admitted c i).boundary c.line := rfl

/-- Queues stay counted when a frame joins the queue of its path (R1, R20, R101). -/
theorem State.QueuesCounted.admitted {s : State} (unique : s.IdentitiesUnique) (h : s.QueuesCounted) {c : Copy} {i : PathSlot}
    (found : s.findPath c.line c.tag = some i) : (s.admitted c i).QueuesCounted := by
  obtain ⟨count, named⟩ := h
  obtain ⟨live, line, tag⟩ := Path.holds_iff.1 (State.findPath_some found).1
  have perm := (s.lines.get c.line).append_frames c.queued
  have path (k : PathSlot) : ((s.admitted c i).paths.get k).life = (s.paths.get k).life ∧ ((s.admitted c i).paths.get k).line = (s.paths.get k).line
      ∧ ((s.admitted c i).paths.get k).tag = (s.paths.get k).tag ∧ ((s.admitted c i).paths.get k).queued = (s.paths.get k).queued + if k = i then 1 else 0 := by
    simp only [State.admitted, Table.get_modify]
    split
    · next e => subst e; exact ⟨rfl, rfl, rfl, rfl⟩
    · exact ⟨rfl, rfl, rfl, rfl⟩
  refine ⟨fun k hk => ?_, fun l f hf => ?_⟩
  · obtain ⟨hlife, hline, htag, hqueued⟩ := path k
    rw [hlife] at hk
    rw [hline, htag, hqueued, count k hk]
    simp only [State.admitted, Table.get_modify]
    by_cases e : k = i
    · subst e
      rw [if_pos rfl, if_pos line, LinePort.framesOf_of_perm perm, if_pos (show c.queued.copy.tag = _ from tag.symm), line]
    · rw [if_neg e]
      split
      · next hl =>
        have other : c.queued.copy.tag ≠ (s.paths.get k).tag := fun ht => unique k i e hk live ⟨hl.trans line.symm, ht.symm.trans tag.symm⟩
        rw [LinePort.framesOf_of_perm perm, hl, if_neg other]
      · rfl
  · have some_path : ∃ m, (s.paths.get m).life ≠ .vacant ∧ (s.paths.get m).line = l ∧ (s.paths.get m).tag = f.copy.tag := by
      simp only [State.admitted, Table.get_modify] at hf
      split at hf
      · next e =>
        subst e
        obtain rfl | old := List.mem_cons.1 (perm.mem_iff.1 hf)
        · exact ⟨i, live, line, tag⟩
        · exact named _ f old
      · exact named l f hf
    obtain ⟨m, hm, hl, ht⟩ := some_path
    obtain ⟨hlife, hline, htag, -⟩ := path m
    exact ⟨m, hlife ▸ hm, hline.trans hl, htag.trans ht⟩

/-- A copy admitted keeps the invariants (R98, R101). -/
theorem State.Keeps.admitted (s : State) {c : Copy} {i : PathSlot} (found : s.findPath c.line c.tag = some i) (room : c.queued.cells ≤ s.freeCells) :
    s.Keeps (s.admitted c i) := by
  refine .of_queues (fun h => ?_) (fun h => ⟨h.1.mono fun k hk => ?_, .admitted h.1 h.2 found⟩) (paths := fun k => ?_) (lines := fun l => ?_)
  · have moved := s.cellsQueued_onLine c.line (·.append c.queued)
    rw [queueCells_perm (LinePort.append_frames _ _), queueCells_cons] at moved
    have whole : s.freeCells + s.cellsQueued = 4096 := h
    have same : (s.admitted c i).cellsQueued = (s.onLine c.line (·.append c.queued)).cellsQueued := rfl
    have free : (s.admitted c i).freeCells = s.freeCells - c.queued.cells := rfl
    rw [State.PoolWhole, same, free]
    omega
  · revert hk
    simp only [State.admitted, Table.get_modify]
    split
    · next e => subst e; exact fun hk => ⟨hk, rfl, rfl⟩
    · exact fun hk => ⟨hk, rfl, rfl⟩
  · exact Table.get_modify_of (r := Path.Cared s.settings) (.refl _) ⟨rfl, fun _ => rfl, fun _ => rfl, fun _ h => h⟩ k
  · refine Table.get_modify_of (r := LinePort.Held) .refl ?_ l
    unfold LinePort.append
    split <;> exact ⟨id, id, id⟩

/-- The test of R101 finds the cells it admits. -/
theorem State.admits_room {s : State} {l : Line} {c : Urgency} {n : Nat} (h : s.admits l c n = true) : n ≤ s.freeCells := by
  unfold State.admits at h
  have := (Bool.and_eq_true_iff.1 h).1
  cases c with
  | urgent => exact of_decide_eq_true this
  | normal => have := of_decide_eq_true this; omega

/-- A copy handed over keeps the invariants (R94, R101, R102). -/
theorem State.Keeps.handOver (s : State) (k : FeedSlot) (i : PathSlot) (c : Copy) : s.Keeps (s.handOver k i c) := by
  obtain ⟨m, found, room, h⟩ | ⟨-, h⟩ := s.handOver_cases k i c <;> rw [h]
  · rw [State.enqueue_eq]
    exact (State.Keeps.admitted s found (State.admits_room room)).trans ((State.Keeps.boundary _ _).trans (.countPath _ _ _))
  · exact (State.Keeps.countLine _ _ _).trans (.countOut _ _ _)

/-! ### Slots vacated -/

theorem Path.vacant_inRange : Path.vacant.InRange := by
  unfold Path.InRange Tuning.InRange
  decide

/-- WITHDRAWING paths with nothing queued become vacant (R15). -/
theorem State.Keeps.vacate (s : State) (ps : Table Path 32)
    (h : ∀ i, ps.get i = s.paths.get i ∨ (ps.get i = .vacant ∧ (s.paths.get i).life = .withdrawing ∧ (s.paths.get i).queued = 0)) :
    s.Keeps { s with paths := ps } := by
  have stays (i : PathSlot) (hi : (ps.get i).life ≠ .vacant) : ps.get i = s.paths.get i := by
    obtain e | ⟨e, -⟩ := h i
    · exact e
    · exact absurd (by rw [e]; rfl) hi
  refine .of_queues id (fun hq => ⟨hq.1.mono fun i hi => ?_, ?_⟩) (paths := fun i => ?_)
  · have e := stays i hi
    exact ⟨fun hv => hi (e ▸ hv), by rw [← e], by rw [← e]⟩
  · obtain ⟨count, named⟩ := hq.2
    refine ⟨fun i hi => ?_, fun l f hf => ?_⟩
    · have e := stays i hi
      have old := count i fun hv => hi (e ▸ hv)
      dsimp only
      rwa [e]
    · obtain ⟨i, hi, hl, ht⟩ := named l f hf
      obtain e | ⟨-, -, none_queued⟩ := h i
      · exact ⟨i, by dsimp only; rw [e]; exact ⟨hi, hl, ht⟩⟩
      · have none_there := count i hi
        rw [none_queued, LinePort.framesOf, eq_comm, List.length_eq_zero_iff, List.filter_eq_nil_iff, hl, ht] at none_there
        exact absurd (decide_eq_true rfl) (none_there f hf)
  · obtain e | ⟨e, life, -⟩ := h i <;> dsimp only <;> rw [e]
    · exact .refl _ _
    · have unmeasured : (s.paths.get i).measured = false := by simp [Path.measured, life]
      exact ⟨unmeasured.symm ▸ rfl, fun hm => absurd hm (by simp [unmeasured]), fun hm => absurd hm (by simp [unmeasured]), fun _ _ => Path.vacant_inRange⟩

/-- A WITHDRAWING path with nothing queued is withdrawn (R15). -/
theorem State.Keeps.withdraw (s : State) (i : PathSlot) (life : (s.paths.get i).life = .withdrawing) (queued : (s.paths.get i).queued = 0) :
    s.Keeps (s.withdraw i) := by
  refine (State.Keeps.vacate s (s.paths.set i .vacant) fun k => ?_).trans (.raisePath _ _ _)
  rw [Table.get_set]
  split
  · next e => subst e; exact .inr ⟨rfl, life, queued⟩
  · exact .inl rfl

/-! ### A frame that leaves its queue -/

/-- The units after a traffic frame has left line `l`, before its path is told (R108). -/
def State.sent (s : State) (l : Line) (f : QueuedFrame) : State :=
  { s with
    lines := s.lines.modify l fun p => { p with tx := none, counters := { p.counters with framesSent := bump p.counters.framesSent } }
    freeCells := s.freeCells + f.cells }

/-- A line whose transmitter has fallen idle. -/
def State.silent (s : State) (l : Line) : State := s.onLine l fun p => { p with tx := none }

theorem Table.modify_modify {α : Type} {n : Nat} (t : Table α n) (i : Fin n) (f g : α → α) : (t.modify i f).modify i g = t.modify i (g ∘ f) := by
  rw [Table.modify, Table.get_modify_self, Table.modify, Table.set_set]
  rfl

/-- All that a completion can do before its boundary (R108). -/
theorem State.complete_cases (s : State) (l : Line) (x : Sending) :
    ((∀ q f, x.item ≠ .traffic q f) ∧ s.complete l x = s.silent l)
    ∨ ∃ q f, x.item = .traffic q f
        ∧ ((s.findPath l f.copy.tag = none ∧ s.complete l x = s.sent l f)
          ∨ ∃ i, s.findPath l f.copy.tag = some i ∧ s.complete l x = (s.sent l f).dequeue i) := by
  cases hx : x.item with
  | sound tag id => exact .inl ⟨by simp, by simp [State.complete, hx, State.silent]⟩
  | echo tag id v r => exact .inl ⟨by simp, by simp [State.complete, hx, State.silent]⟩
  | traffic q f =>
    have found (u : State) (h : u.paths = s.paths) : u.findPath l f.copy.tag = s.findPath l f.copy.tag := by unfold State.findPath; rw [h]
    have base : (({ s.onLine l fun p => { p with tx := none } with freeCells := s.freeCells + f.cells } : State).countLine l
        fun k => { k with framesSent := bump k.framesSent }) = s.sent l f := by
      rw [State.countLine, State.onLine]
      simp only [State.onLine_lines, Table.modify_modify]
      rfl
    refine .inr ⟨q, f, rfl, ?_⟩
    have whole : s.complete l x = match s.findPath l f.copy.tag with
        | none => s.sent l f
        | some i => (s.sent l f).dequeue i := by
      unfold State.complete
      simp only [hx]
      rw [← base]
      rfl
    cases hf : s.findPath l f.copy.tag with
    | none => exact .inl ⟨rfl, by rw [whole, hf]⟩
    | some i => exact .inr ⟨i, rfl, by rw [whole, hf]⟩

/-- The pool is whole after a traffic frame has left its line (R98, R108). -/
theorem State.PoolWhole.sent {s : State} (h : s.PoolWhole) {l : Line} {x : Sending} {q : Urgency} {f : QueuedFrame} (sending : (s.lines.get l).tx = some x)
    (item : x.item = .traffic q f) : (s.sent l f).PoolWhole := by
  have moved := s.cellsQueued_onLine l fun p => { p with tx := none, counters := { p.counters with framesSent := bump p.counters.framesSent } }
  rw [queueCells_perm (LinePort.frames_of_sending sending item), queueCells_cons] at moved
  have whole : s.freeCells + s.cellsQueued = 4096 := h
  have same : (s.sent l f).cellsQueued
      = (s.onLine l fun p => { p with tx := none, counters := { p.counters with framesSent := bump p.counters.framesSent } }).cellsQueued := rfl
  have free : (s.sent l f).freeCells = s.freeCells + f.cells := rfl
  have frames (p : LinePort) : ({ p with tx := none, counters := { p.counters with framesSent := bump p.counters.framesSent } } : LinePort).frames
      = ({ p with tx := none } : LinePort).frames := rfl
  rw [frames] at moved
  rw [State.PoolWhole, same, free]
  omega

/-- A path of the frame's identity with its count lowered, after the frame has left (R108). -/
def State.discounted (s : State) (l : Line) (f : QueuedFrame) (i : PathSlot) : State :=
  (s.sent l f).onPath i fun p => { p with queued := p.queued - 1 }

/-- Queues stay counted when a frame leaves and its path's count falls (R20, R108). -/
theorem State.QueuesCounted.discounted {s : State} (unique : s.IdentitiesUnique) (h : s.QueuesCounted) {l : Line} {x : Sending} {q : Urgency} {f : QueuedFrame}
    {i : PathSlot} (sending : (s.lines.get l).tx = some x) (item : x.item = .traffic q f) (found : s.findPath l f.copy.tag = some i) :
    (s.discounted l f i).QueuesCounted := by
  obtain ⟨count, named⟩ := h
  obtain ⟨live, line, tag⟩ := Path.holds_iff.1 (State.findPath_some found).1
  have perm := LinePort.frames_of_sending sending item
  have path (k : PathSlot) : ((s.discounted l f i).paths.get k).life = (s.paths.get k).life ∧ ((s.discounted l f i).paths.get k).line = (s.paths.get k).line
      ∧ ((s.discounted l f i).paths.get k).tag = (s.paths.get k).tag ∧ ((s.discounted l f i).paths.get k).queued = (s.paths.get k).queued - if k = i then 1 else 0 := by
    simp only [State.discounted, State.sent, State.onPath_paths, Table.get_modify]
    split
    · next e => subst e; exact ⟨rfl, rfl, rfl, rfl⟩
    · exact ⟨rfl, rfl, rfl, rfl⟩
  have frames (m : Line) : ((s.discounted l f i).lines.get m).frames = (if m = l then { s.lines.get l with tx := none } else s.lines.get m : LinePort).frames := by
    simp only [State.discounted, State.sent, State.onPath_lines, Table.get_modify]
    split <;> rfl
  refine ⟨fun k hk => ?_, fun m g hg => ?_⟩
  · obtain ⟨hlife, hline, htag, hqueued⟩ := path k
    rw [hlife] at hk
    have fewer := LinePort.framesOf_of_perm perm (s.paths.get k).tag
    rw [hline, htag, hqueued, count k hk, LinePort.framesOf_congr (frames _)]
    by_cases e : k = i
    · subst e
      rw [if_pos tag.symm] at fewer
      simp only [line, if_true]
      omega
    · rw [if_neg e]
      split
      · next hl =>
        rw [if_neg fun ht => unique k i e hk live ⟨hl.trans line.symm, ht.symm.trans tag.symm⟩] at fewer
        rw [hl, fewer]
        rfl
      · rfl
  · have old : g ∈ (s.lines.get m).frames := by
      rw [frames] at hg
      split at hg
      · next e => subst e; exact perm.mem_iff.2 (List.mem_cons_of_mem _ hg)
      · exact hg
    obtain ⟨k, hk, hl, ht⟩ := named m g old
    obtain ⟨hlife, hline, htag, -⟩ := path k
    exact ⟨k, hlife ▸ hk, hline.trans hl, htag.trans ht⟩

/-- A frame that leaves, its path's count lowered, keeps the invariants (R108). -/
theorem State.Keeps.discounted (s : State) {l : Line} {x : Sending} {q : Urgency} {f : QueuedFrame} {i : PathSlot}
    (sending : (s.lines.get l).tx = some x) (item : x.item = .traffic q f) (found : s.findPath l f.copy.tag = some i) : s.Keeps (s.discounted l f i) := by
  refine .of_queues (fun h => State.PoolWhole.sent h sending item) (fun h => ⟨h.1.mono fun k hk => ?_, .discounted h.1 h.2 sending item found⟩)
    (paths := fun k => ?_) (lines := fun l => ?_)
  · revert hk
    simp only [State.discounted, State.sent, State.onPath_paths, Table.get_modify]
    split
    · next e => subst e; exact fun hk => ⟨hk, rfl, rfl⟩
    · exact fun hk => ⟨hk, rfl, rfl⟩
  · exact Table.get_modify_of (r := Path.Cared s.settings) (.refl _) ⟨rfl, fun _ => rfl, fun _ => rfl, fun _ h => h⟩ k
  · exact Table.get_modify_of (r := LinePort.Held) .refl ⟨id, id, id⟩ l

/-- A path told that a frame has left keeps the invariants (R15, R108). -/
theorem State.Keeps.complete (s : State) (l : Line) {x : Sending} (sending : (s.lines.get l).tx = some x) : s.Keeps (s.complete l x) := by
  obtain ⟨item, h⟩ | ⟨q, f, item, ⟨lost, h⟩ | ⟨i, found, h⟩⟩ := s.complete_cases l x <;> rw [h]
  · exact .onLine _ _ _ ⟨LinePort.frames_of_control sending item, id, id, id⟩
  · refine .of_queues (fun h => State.PoolWhole.sent h sending item) (fun hq => ?_) (lines := Table.get_modify_of (r := LinePort.Held) .refl ⟨id, id, id⟩)
    have mem : f ∈ (s.lines.get l).frames := (LinePort.frames_of_sending sending item).mem_iff.2 List.mem_cons_self
    obtain ⟨i, hi, hl, ht⟩ := hq.2.2 l f mem
    exact absurd (Path.holds_iff.2 ⟨hi, hl, ht⟩) (by simp [State.findPath_none.1 lost i])
  · have lowered := State.Keeps.discounted s sending item found
    unfold State.dequeue
    dsimp only
    split
    · next last =>
      simp only [Bool.and_eq_true, decide_eq_true_eq] at last
      exact lowered.trans (.withdraw _ i last.1 last.2)
    · exact lowered

/-! ### Carrier loss -/

/-- The units after a flush of line `l`, before the WITHDRAWING paths with nothing left are vacated (R110). -/
def State.flushed (s : State) (l : Line) : State :=
  { s with
    freeCells := s.freeCells + queueCells (s.lines.get l).frames
    lines := s.lines.modify l LinePort.flush
    paths := s.paths.map (Path.flushed l (s.lines.get l)) }

theorem LinePort.flush_frames (p : LinePort) : p.flush.frames = [] := rfl

/-- A path after a flush: its count without the frames flushed, when it is of that line (R110). -/
theorem Path.flushed_cases (l : Line) (port : LinePort) (p : Path) :
    (p.life ≠ .vacant ∧ p.line = l ∧ Path.flushed l port p = { p with queued := p.queued - port.framesOf p.tag })
    ∨ (¬ (p.life ≠ .vacant ∧ p.line = l) ∧ Path.flushed l port p = p) := by
  unfold Path.flushed
  by_cases h : p.holds l p.tag = true
  · obtain ⟨hv, hl, -⟩ := Path.holds_iff.1 h
    exact .inl ⟨hv, hl, if_pos h⟩
  · exact .inr ⟨fun hn => h (Path.holds_iff.2 ⟨hn.1, hn.2, rfl⟩), if_neg h⟩

/-- Queues stay counted when all frames of a line leave it (R110). -/
theorem State.QueuesCounted.flushed {s : State} (h : s.QueuesCounted) (l : Line) : (s.flushed l).QueuesCounted := by
  obtain ⟨count, named⟩ := h
  have frames (m : Line) : ((s.flushed l).lines.get m).frames = if m = l then [] else (s.lines.get m).frames := by
    simp only [State.flushed, Table.get_modify]
    split
    · exact LinePort.flush_frames _
    · rfl
  have path (i : PathSlot) : (s.flushed l).paths.get i = Path.flushed l (s.lines.get l) (s.paths.get i) := Table.get_map _ _ _
  refine ⟨fun i hi => ?_, fun m f hf => ?_⟩
  · rw [path] at hi ⊢
    obtain ⟨hv, hl, e⟩ | ⟨hn, e⟩ := Path.flushed_cases l (s.lines.get l) (s.paths.get i) <;> rw [e] at hi ⊢
    · dsimp only
      rw [count i hv, hl, LinePort.framesOf, LinePort.framesOf, frames, if_pos rfl]
      simp
    · rw [count i hi, LinePort.framesOf, LinePort.framesOf, frames, if_neg fun hl => hn ⟨hi, hl⟩]
  · rw [frames] at hf
    split at hf
    · exact absurd hf List.not_mem_nil
    · obtain ⟨i, hi, hl, ht⟩ := named m f hf
      refine ⟨i, ?_⟩
      rw [path]
      obtain ⟨-, -, e⟩ | ⟨-, e⟩ := Path.flushed_cases l (s.lines.get l) (s.paths.get i) <;> rw [e] <;> exact ⟨hi, hl, ht⟩

/-- A line's frames gone to the pool keep the invariants (R110). -/
theorem State.Keeps.flushed (s : State) (l : Line) : s.Keeps (s.flushed l) := by
  refine .of_queues (fun h => ?_) (fun h => ⟨h.1.mono fun i hi => ?_, h.2.flushed l⟩) (paths := fun i => ?_) (lines := ?_)
  · have moved := s.cellsQueued_onLine l LinePort.flush
    rw [LinePort.flush_frames] at moved
    have none_left : queueCells [] = 0 := rfl
    have whole : s.freeCells + s.cellsQueued = 4096 := h
    have same : (s.flushed l).cellsQueued = (s.onLine l LinePort.flush).cellsQueued := rfl
    have free : (s.flushed l).freeCells = s.freeCells + queueCells (s.lines.get l).frames := rfl
    rw [State.PoolWhole, same, free]
    omega
  · simp only [State.flushed, Table.get_map] at hi ⊢
    obtain ⟨-, -, e⟩ | ⟨-, e⟩ := Path.flushed_cases l (s.lines.get l) (s.paths.get i) <;> rw [e] at hi ⊢ <;> exact ⟨hi, rfl, rfl⟩
  · simp only [State.flushed, Table.get_map]
    obtain ⟨-, -, e⟩ | ⟨-, e⟩ := Path.flushed_cases l (s.lines.get l) (s.paths.get i) <;> rw [e] <;>
      exact ⟨rfl, fun _ => rfl, fun _ => rfl, fun _ h => h⟩
  · exact Table.get_modify_of (r := LinePort.Held) .refl ⟨id, id, fun _ => Nat.zero_le 8⟩

/-- A flush keeps the invariants (R110). -/
theorem State.Keeps.flush (s : State) (l : Line) : s.Keeps (s.flush l) := by
  obtain ⟨gone, members, h⟩ := s.flush_eq l
  have vacated : (s.flushed l).Keeps { s.flushed l with paths := s.paths.mapIdx fun i p => if gone.mem i.val then .vacant else Path.flushed l (s.lines.get l) p } := by
    refine .vacate _ _ fun i => ?_
    simp only [Table.get_mapIdx, State.flushed, Table.get_map]
    split
    · next hi =>
      obtain ⟨life, -, queued⟩ := (members i).1 hi
      refine .inr ⟨rfl, ?_, queued⟩
      obtain ⟨-, -, e⟩ | ⟨-, e⟩ := Path.flushed_cases l (s.lines.get l) (s.paths.get i) <;> rw [e] <;> exact life
    · exact .inl rfl
  rw [h]
  exact (State.Keeps.flushed s l).trans (vacated.trans (.raisePaths _ .withdrawn gone))

/-- A line without contexts goes LOST (R59, R66). -/
theorem State.Keeps.dropCarrier (s : State) (l : Line) (free : ∀ c x, s.su.contexts.get c = some x → x.line ≠ l) : s.Keeps (s.onLine l LinePort.loseCarrier) where
  time := rfl
  pool h := h.congr rfl (Table.get_modify_of (r := fun p q : LinePort => q.frames = p.frames) (fun _ => rfl) rfl)
  queues h := ⟨h.1, h.2.congr (fun _ => .rfl) (fun _ => rfl) (fun _ => rfl) (fun _ => rfl)
    (Table.get_modify_of (r := fun p q : LinePort => q.frames = p.frames) (fun _ => rfl) rfl)⟩
  soundings h := by
    obtain ⟨live, due, quiet⟩ := h
    refine ⟨fun c x hx => ?_, due, quiet⟩
    rw [State.onLine_lines, Table.get_modify_ne _ (free c x hx)]
    exact live c x hx
  feeds h := h
  notices h := h
  ranges h := by
    obtain ⟨⟨onLines, onPorts, onFeeds⟩, values⟩ := h
    refine ⟨⟨fun m => ?_, onPorts, onFeeds⟩, values⟩
    exact Table.get_modify_of (r := fun p q : LinePort => p.echoes.length ≤ 4 ∧ p.ratioCount ≤ 8 → q.echoes.length ≤ 4 ∧ q.ratioCount ≤ 8)
      (f := LinePort.loseCarrier) (fun _ => id) (fun h => ⟨Nat.zero_le 4, h.2⟩) m (onLines m)

/-- A carrier loss with its cascade keeps the invariants (R66, R110). -/
theorem State.Keeps.carrierLoss (s : State) (l : Line) : s.Keeps (s.carrierLoss l) := by
  unfold State.carrierLoss
  dsimp only
  refine .trans (.of_parts (paths := fun i => ?_)) (.trans (.raiseLine _ _ _) (.trans (.raisePaths _ _ _) (.trans (.raisePaths _ _ _)
    (.trans (.voidContexts _ _) (.trans (.dropCarrier _ l fun c x hx => ?_) (.trans (.flush _ l) (.serve _)))))))
  · rw [Table.get_map]
    exact ⟨.rfl, rfl, rfl, rfl, rfl, fun _ h => h⟩
  · rw [State.voidContexts_contexts, Option.filter_eq_some_iff] at hx
    simpa using hx.2

end Sys2Proof.Machine
end

section
/-! The invariants through retirement, selection and arbitration, the weather, the time base and the resets. -/

namespace Sys2Proof.Machine

/-! ### Carrier and grade -/

/-- A path whose weather alone changes. -/
theorem Path.Kept.of_weather (set : Settings) (p : Path) (w : WeatherRecord) : p.Kept set { p with weather := w } := (Path.Kept.refl set p).weather w

theorem Path.recordGrade_kept (set : Settings) (l : Line) (g : Fin 8) (p : Path) : p.Kept set (p.recordGrade l g) := by
  unfold Path.recordGrade
  split
  · exact .of_weather set p _
  · exact .refl set p

/-- A grade recorded in the paths of a line (R69). -/
theorem State.Keeps.recordGrade (s : State) (l : Line) (g : Fin 8) : s.Keeps { s with paths := s.paths.map (Path.recordGrade l g) } :=
  .of_parts (paths := fun i => by rw [Table.get_map]; exact Path.recordGrade_kept _ l g _)

/-- A line at a grade that is not 0 has carrier (R59). -/
theorem LinePort.kept_of_grade (p : LinePort) {g : Fin 8} (h : g ≠ 0) : p.Kept { p with grade := g } :=
  ⟨rfl, fun _ => by simp [LinePort.carrier, h], id, id⟩

theorem State.Keeps.takeGrade (s : State) (l : Line) (g : Fin 8) : s.Keeps (s.takeGrade l g) := by
  unfold State.takeGrade
  split
  · split
    · exact .carrierLoss s l
    · next h => exact (State.Keeps.onLine _ _ _ (LinePort.kept_of_grade _ h)).trans (.recordGrade _ l g)
  · split
    · exact .recordGrade s l 0
    · next h =>
      exact (State.Keeps.onLine _ _ _ (LinePort.kept_of_grade _ h)).trans ((State.Keeps.raiseLine _ _ _).trans
        ((State.Keeps.recordGrade _ l g).trans ((State.Keeps.serve _).trans (.boundary _ _))))

/-- A line whose presence, lock, timer or settings alone change. -/
theorem State.Keeps.onLine_rfl (s : State) (l : Line) (f : LinePort → LinePort) (frames : ∀ p, (f p).frames = p.frames) (grade : ∀ p, (f p).grade = p.grade)
    (echoes : ∀ p, (f p).echoes = p.echoes) (ratio : ∀ p, p.ratioCount ≤ 8 → (f p).ratioCount ≤ 8) : s.Keeps (s.onLine l f) :=
  .onLine _ _ _ ⟨frames _, fun h => by rwa [LinePort.carrier, grade], fun h => by rwa [echoes], ratio _⟩

theorem State.Keeps.takeModemStatus (s : State) (l : Line) (carrier : Bool) (g : Fin 8) : s.Keeps (s.takeModemStatus l carrier g) := by
  unfold State.takeModemStatus
  split
  · exact (State.Keeps.onLine_rfl s l (fun p => { p with timer := some (s.clock + Config.statusTimerTicks) }) (fun _ => rfl) (fun _ => rfl) (fun _ => rfl) fun _ => id).trans
      (.takeGrade _ _ _)
  · exact .countLine _ _ _

theorem State.Keeps.removeModem (s : State) (l : RadioLine) : s.Keeps (s.removeModem l) := by
  unfold State.removeModem
  dsimp only
  refine .trans (.onLine_rfl s (radioLine l) (fun p => { p with presence := false, timer := none }) (fun _ => rfl) (fun _ => rfl) (fun _ => rfl) fun _ => id)
    (.trans (.raiseLine _ .modemChange (radioLine l)) ?_)
  split
  · exact .carrierLoss _ _
  · exact .refl _

theorem State.Keeps.fitModem (s : State) (l : RadioLine) : s.Keeps (s.fitModem l) :=
  .trans (.onLine_rfl s (radioLine l) (fun p => { p with presence := true }) (fun _ => rfl) (fun _ => rfl) (fun _ => rfl) fun _ => id) (.raiseLine _ _ _)

theorem State.Keeps.gainLock (s : State) (l : FibreLine) : s.Keeps (s.gainLock l) :=
  .trans (.onLine_rfl s (fibreLine l) (fun p => { p with lock := true }) (fun _ => rfl) (fun _ => rfl) (fun _ => rfl) fun _ => id) (.takeGrade _ _ _)

theorem State.Keeps.loseLock (s : State) (l : FibreLine) : s.Keeps (s.loseLock l) := by
  unfold State.loseLock
  dsimp only
  refine .trans (.onLine_rfl s (fibreLine l) (fun p => { p with lock := false }) (fun _ => rfl) (fun _ => rfl) (fun _ => rfl) fun _ => id) ?_
  split
  · exact .carrierLoss _ _
  · exact .refl _

theorem State.Keeps.timerExpires (s : State) (l : RadioLine) : s.Keeps (s.timerExpires l) := by
  unfold State.timerExpires
  dsimp only
  refine .trans (.onLine_rfl s (radioLine l) (fun p => { p with timer := none }) (fun _ => rfl) (fun _ => rfl) (fun _ => rfl) fun _ => id) ?_
  split
  · exact .trans (.countLine _ _ _) (.carrierLoss _ _)
  · exact .refl _

theorem State.Keeps.presentPin (s : State) (x : FlagSet 4) : s.Keeps { s with presentPin := x } := .of_parts

theorem State.Keeps.lockPin (s : State) (x : FlagSet 2) : s.Keeps { s with lockPin := x } := .of_parts

theorem State.Keeps.presentGone (s : State) (l : RadioLine) : s.Keeps (s.presentGone l) := by
  unfold State.presentGone
  dsimp only
  split
  · refine (State.Keeps.presentPin s (s.presentPin.erase l.val)).trans ?_
    split
    · exact .refl _
    · exact .removeModem _ l
  · exact .refl s

theorem State.Keeps.presentCome (s : State) (l : RadioLine) : s.Keeps (s.presentCome l) := by
  unfold State.presentCome
  dsimp only
  split
  · exact .refl s
  · refine (State.Keeps.presentPin s (s.presentPin.insert l.val)).trans ?_
    split
    · exact .refl _
    · exact .fitModem _ l

theorem State.Keeps.lockCome (s : State) (l : FibreLine) : s.Keeps (s.lockCome l) := by
  unfold State.lockCome
  dsimp only
  split
  · exact .refl s
  · refine (State.Keeps.lockPin s (s.lockPin.insert l.val)).trans ?_
    split
    · exact .refl _
    · exact .gainLock _ l

theorem State.Keeps.lockGone (s : State) (l : FibreLine) : s.Keeps (s.lockGone l) := by
  unfold State.lockGone
  dsimp only
  split
  · refine (State.Keeps.lockPin s (s.lockPin.erase l.val)).trans ?_
    split
    · exact .refl _
    · exact .loseLock _ l
  · exact .refl s

/-! ### Route notices and the feed table -/

/-- NU taking a notice of an OPEN OUTBOUND feed keeps latch and pending set orderly (R159). -/
theorem State.Keeps.take (s : State) (x : Notice) (h : (s.feeds.get x.feed).sends) : s.Keeps (s.onNu (·.take x)) where
  time := rfl
  pool h := h
  queues h := h
  soundings h := h
  feeds h := h
  ranges h := h
  notices := by
    rintro ⟨empty, other, named⟩
    obtain ⟨hl, e⟩ | ⟨y, hl, hf, -, e⟩ | ⟨y, hl, hf, -, e⟩ | ⟨y, hl, hf, e⟩ := s.nu.take_cases x
    · refine ⟨?_, ?_, ?_⟩ <;> simp only [State.onNu_nu, e]
      · exact fun h => absurd h (by simp)
      · exact fun n _ => empty hl n.feed
      · exact named
    · refine ⟨?_, ?_, ?_⟩ <;> simp only [State.onNu_nu, e]
      · exact fun h => absurd h (by simp)
      · rintro n ⟨⟩
        exact other y hl
      · exact named
    · refine ⟨?_, ?_, ?_⟩ <;> simp only [State.onNu_nu, e]
      · exact fun h => absurd h (by simp)
      · rintro n ⟨⟩
        rw [← hf]
        exact other y hl
      · exact named
    · refine ⟨?_, ?_, ?_⟩ <;> simp only [State.onNu_nu, e, hl]
      · exact fun h => absurd h (by simp)
      · rintro n ⟨⟩
        rw [FlagSet.mem_insert_fin, other y hl]
        simpa using Ne.symm hf
      · intro k hk
        rw [FlagSet.mem_insert_fin, Bool.or_eq_true, decide_eq_true_eq] at hk
        obtain hk | rfl := hk
        · exact named k hk
        · exact h

/-- Notices of OPEN OUTBOUND feeds taken one after another. -/
theorem State.Keeps.takeAll (x : FeedSlot → Notice) (l : List FeedSlot) (s : State) (h : ∀ k ∈ l, (s.feeds.get (x k).feed).sends) :
    s.Keeps { s with nu := l.foldl (fun n k => n.take (x k)) s.nu } := by
  induction l generalizing s with
  | nil => exact .refl s
  | cons k l ih => exact (State.Keeps.take s (x k) (h k List.mem_cons_self)).trans (ih _ fun m hm => h m (List.mem_cons_of_mem k hm))

theorem Feed.sends_iff_bool {f : Feed} : f.sends ↔ (f.opened && decide (f.direction = .outbound)) = true := by
  rw [Feed.sends, Bool.and_eq_true, decide_eq_true_eq]

/-- What a feed's forgetting of a path does (R13). -/
theorem Feed.forget_cases (i : PathSlot) (f : Feed) :
    (f.sends ∧ f.forget i = { f with out := { f.out with
        pathSet := f.out.pathSet.erase i.val
        pin := if f.out.pin = some i then none else f.out.pin
        lead := if f.out.lead = some i then none else f.out.lead } })
    ∨ (¬ f.sends ∧ f.forget i = f) := by
  unfold Feed.forget
  by_cases h : f.sends
  · exact .inl ⟨h, if_pos (Feed.sends_iff_bool.1 h)⟩
  · exact .inr ⟨h, if_neg fun e => h (Feed.sends_iff_bool.2 e)⟩

/-- A reference that is not to the path forgotten stays a member. -/
theorem mem_erase_of_kept {set : FlagSet 32} {i k : PathSlot} {r : Option PathSlot} (h : ∀ m, r = some m → set.mem m.val = true)
    (hr : (if r = some i then none else r) = some k) : (set.erase i.val).mem k.val = true := by
  split at hr
  · cases hr
  · next ne =>
    subst hr
    rw [FlagSet.mem_erase_fin, h k rfl, Bool.true_and, Bool.not_eq_true', decide_eq_false_iff_not]
    rintro rfl
    exact ne rfl

theorem Feed.forget_kept (s : State) (i : PathSlot) (f : Feed) : f.Kept s (f.forget i) := by
  obtain ⟨-, e⟩ | ⟨-, e⟩ := f.forget_cases i <;> rw [e]
  · refine ⟨rfl, rfl, rfl, fun _ => ?_, id⟩
    rintro ⟨set, pin, lead⟩
    refine ⟨fun k hk => ?_, fun k => mem_erase_of_kept pin, fun k => mem_erase_of_kept lead⟩
    dsimp only at hk
    rw [FlagSet.mem_erase_fin, Bool.and_eq_true] at hk
    exact set k hk.1
  · exact .refl s f

/-- A feed that has forgotten a path does not name it (R13). -/
theorem Feed.forget_not_mem {i : PathSlot} {f : Feed} (h : (f.forget i).sends) : (f.forget i).out.pathSet.mem i.val = false := by
  obtain ⟨-, e⟩ | ⟨hn, e⟩ := f.forget_cases i <;> rw [e] at h ⊢
  · simp
  · exact absurd h hn

theorem Feed.sends_of_leads {f : Feed} {i : PathSlot} (h : f.leads i = true) : f.sends := by
  unfold Feed.leads at h
  rw [Bool.and_eq_true] at h
  exact Feed.sends_iff_bool.2 h.1

/-- Every feed forgets a path, with its notices (R13). -/
theorem State.Keeps.forgetPath (s : State) (i : PathSlot) : s.Keeps (s.forgetPath i) := by
  unfold State.forgetPath
  dsimp only
  refine .trans (.takeAll (fun k => s.notice k (some i) none .pathGone) ((List.finRange 64).filter fun k => (s.feeds.get k).leads i) s fun k hk => ?_)
    (.of_parts (feeds := fun k => ?_))
  · exact Feed.sends_of_leads (List.mem_filter.1 hk).2
  · rw [Table.get_map]
    exact Feed.forget_kept _ i _

/-- A lead set to a member of the path set, or to none (R91). -/
theorem State.Keeps.setLead (s : State) (k : FeedSlot) (new : Option PathSlot) (reason : Reason) (sends : (s.feeds.get k).sends)
    (member : ∀ i, new = some i → (s.feeds.get k).out.pathSet.mem i.val = true) : s.Keeps (s.setLead k new reason) := by
  obtain ⟨-, h⟩ | ⟨-, h⟩ := s.setLead_cases k new reason <;> rw [h]
  · exact .refl s
  · exact (State.Keeps.take s ⟨k, _, _, new, reason, s.tb.time⟩ sends).trans
      (.onFeed _ k _ ⟨rfl, rfl, rfl, fun _ h => ⟨h.1, h.2.1, member⟩, id⟩)

/-! ### Retirement -/

/-- A path that nothing names any more enters WITHDRAWING (R12). -/
theorem State.Keeps.withdrawing (s : State) (i : PathSlot) (live : (s.paths.get i).life ≠ .vacant) (contexts : ∀ c x, s.su.contexts.get c = some x → x.path ≠ i)
    (due : s.su.due.mem i.val = false) (feeds : ∀ k, (s.feeds.get k).sends → (s.feeds.get k).out.pathSet.mem i.val = false) :
    s.Keeps (s.onPath i fun p => { p with life := .withdrawing }) := by
  have other {k : PathSlot} (h : k ≠ i) : (s.paths.modify i fun p => { p with life := .withdrawing }).get k = s.paths.get k := Table.get_modify_ne _ h _
  have same : ∀ k, ((s.paths.modify i fun p => { p with life := .withdrawing }).get k).line = (s.paths.get k).line
      ∧ ((s.paths.modify i fun p => { p with life := .withdrawing }).get k).tag = (s.paths.get k).tag
      ∧ ((s.paths.modify i fun p => { p with life := .withdrawing }).get k).queued = (s.paths.get k).queued :=
    Table.get_modify_of (r := fun p q : Path => q.line = p.line ∧ q.tag = p.tag ∧ q.queued = p.queued) (fun _ => ⟨rfl, rfl, rfl⟩) ⟨rfl, rfl, rfl⟩
  have life (k : PathSlot) : ((s.paths.modify i fun p => { p with life := .withdrawing }).get k).life = .vacant ↔ (s.paths.get k).life = .vacant := by
    by_cases e : k = i
    · subst e; simp [live]
    · rw [other e]
  refine ⟨⟨fun h => h, fun h => ⟨h.1.mono fun k hk => ⟨fun e => hk ((life k).2 e), (same k).1, (same k).2.1⟩, ?_⟩, ?_, ?_, fun h => h, ?_⟩, rfl⟩
  · exact h.2.congr life (fun k => (same k).1) (fun k => (same k).2.1) (fun k => (same k).2.2) fun _ => rfl
  · rintro ⟨onContexts, onDue, quiet⟩
    refine ⟨fun c x hx => ?_, fun k => ⟨fun hk => ?_, (onDue k).2⟩, quiet⟩
    · rw [State.onPath_paths, other (contexts c x hx)]
      exact onContexts c x hx
    · have ne : k ≠ i := by
        rintro rfl
        rw [State.onPath_su, due] at hk
        cases hk
      rw [State.onPath_paths, other ne]
      exact (onDue k).1 hk
  · rintro ⟨numbers, refs⟩
    refine ⟨numbers, fun k hk => ?_⟩
    obtain ⟨set, pin, lead⟩ := refs k hk
    refine ⟨fun m hm => ?_, pin, lead⟩
    have ne : m ≠ i := by
      rintro rfl
      rw [State.onPath_feeds, feeds k hk] at hm
      cases hm
    rw [State.onPath_paths, other ne]
    exact set m hm
  · rintro ⟨lists, settings, inPaths, tb⟩
    refine ⟨lists, settings, fun k => ?_, tb⟩
    exact Table.get_modify_of (r := fun p q : Path => p.InRange → q.InRange) (fun _ => id) (fun h => ⟨h.1, h.2.1, h.2.2.1, h.2.2.2.1, by simp⟩) k (inPaths k)

/-- A path taken out of the schedule (R12). -/
theorem State.Keeps.dropPath (s : State) (i : PathSlot) : s.Keeps (s.onSu (·.dropPath i)) := by
  refine .of_su _ _ fun live => live.mono _ (fun c x hx => ⟨x, hx, rfl, rfl, rfl⟩) (fun k hk => ?_) fun k hk => ?_
  · rw [SoundingUnit.dropPath, FlagSet.mem_erase_fin, Bool.and_eq_true] at hk
    exact hk.1
  · simp only [SoundingUnit.dropPath, FlagSet.mem_erase_fin, Bool.and_eq_true] at hk ⊢
    exact ⟨hk.1, fun hd => ⟨hd, hk.2⟩⟩

/-- The units once SU and every feed have let go of a path to be retired (R12, R13). -/
def State.released (s : State) (i : PathSlot) : State := (((s.voidContexts fun c => c.path = i).onSu (·.dropPath i)).forgetPath i).onPath i fun p => { p with life := .withdrawing }

theorem State.retire_eq (s : State) (i : PathSlot) :
    s.retire i = (if ((s.released i).paths.get i).queued = 0 then (s.released i).withdraw i else s.released i).serve := rfl

theorem State.Keeps.released (s : State) (i : PathSlot) (live : (s.paths.get i).life ≠ .vacant) : s.Keeps (s.released i) := by
  refine .trans (.voidContexts s fun c => c.path = i) (.trans (.dropPath _ i) (.trans (.forgetPath _ i) (.withdrawing _ i live (fun c x hx => ?_) ?_ fun k hk => ?_)))
  · have hx : (s.voidContexts fun c => c.path = i).su.contexts.get c = some x := hx
    rw [State.voidContexts_contexts, Option.filter_eq_some_iff] at hx
    simpa using hx.2
  · have e : ((((s.voidContexts fun c => c.path = i).onSu (·.dropPath i)).forgetPath i)).su.due = s.su.due.erase i.val := rfl
    rw [e]
    simp
  · have e : ((((s.voidContexts fun c => c.path = i).onSu (·.dropPath i)).forgetPath i)).feeds.get k = (s.feeds.get k).forget i := Table.get_map _ _ _
    rw [e] at hk ⊢
    exact Feed.forget_not_mem hk

/-- A path retired keeps the invariants (R12, R13, R15). -/
theorem State.Keeps.retire (s : State) (i : PathSlot) (live : (s.paths.get i).life ≠ .vacant) : s.Keeps (s.retire i) := by
  rw [State.retire_eq]
  refine (State.Keeps.released s i live).trans (.trans ?_ (.serve _))
  split
  · next h => exact .withdraw _ i (by simp [State.released]) h
  · exact .refl _

/-! ### Outbound messages -/

theorem State.eligible_mem {s : State} {set : FlagSet 32} {i : PathSlot} (h : s.eligible set i = true) : set.mem i.val = true := by
  simp only [State.eligible, Bool.and_eq_true] at h
  exact h.1.1.1.1

/-- The lead that selection settles on is a member of the path set (R89, R90). -/
theorem State.chooseLead_mem {s : State} {o : OutFields} {c : Urgency} {b : PathSlot} (hb : o.pathSet.mem b.val = true) :
    o.pathSet.mem (s.chooseLead o c b).1.val = true := by
  unfold State.chooseLead
  dsimp only
  have byCost : o.pathSet.mem ((match o.lead with
      | none => (b, Reason.lost)
      | some l =>
        if s.eligible o.pathSet l then
          if s.cost c b + s.settings.switchMargin < s.cost c l then (b, s.changeReason o.lead b .cost) else (l, .cost)
        else (b, s.changeReason o.lead b .lost)) : PathSlot × Reason).1.val = true := by
    split
    · exact hb
    · split
      · next l _ h =>
        split
        · exact hb
        · exact State.eligible_mem h
      · exact hb
  split
  · exact byCost
  · split
    · next h => exact State.eligible_mem h
    · exact byCost

/-- The lowest of a list by a score is in the list. -/
theorem lowestBy_mem {score : PathSlot → Nat} {l : List PathSlot} {b : PathSlot} (h : lowestBy score l = some b) : b ∈ l := by
  have folded : ∀ (l : List PathSlot) (a : Option PathSlot), l.foldl (better score) a = some b → a = some b ∨ b ∈ l := by
    intro l
    induction l with
    | nil => exact fun a h => .inl h
    | cons x l ih =>
      intro a h
      obtain h | h := ih _ h
      · unfold better at h
        split at h
        · cases h; exact .inr List.mem_cons_self
        · split at h
          · cases h; exact .inr List.mem_cons_self
          · exact .inl h
      · exact .inr (List.mem_cons_of_mem x h)
  obtain h | h := folded l none h
  · cases h
  · exact h

theorem State.eligible_of_lowest {s : State} {set : FlagSet 32} {score : PathSlot → Nat} {b : PathSlot} (h : lowestBy score (s.eligiblePaths set) = some b) :
    s.eligible set b = true := (List.mem_filter.1 (lowestBy_mem h)).2

theorem State.Keeps.sendSelected (s : State) (k : FeedSlot) (m : Message) {b : PathSlot} (sends : (s.feeds.get k).sends)
    (hb : (s.feeds.get k).out.pathSet.mem b.val = true) : s.Keeps (s.sendSelected k m b) := by
  unfold State.sendSelected
  dsimp only
  refine .trans (.setLead s k (some (s.chooseLead (s.feeds.get k).out m.urgency b).1) (s.chooseLead (s.feeds.get k).out m.urgency b).2 sends fun i hi => ?_) ?_
  · cases hi; exact State.chooseLead_mem hb
  · generalize (if (s.feeds.get k).out.twoCopies then s.secondPath (s.feeds.get k).out m.urgency (s.chooseLead (s.feeds.get k).out m.urgency b).1 else none) = second
    have copies (u : State) : u.Keeps (match second with
        | none => u.handOver k (s.chooseLead (s.feeds.get k).out m.urgency b).1 (s.copyOn m (s.chooseLead (s.feeds.get k).out m.urgency b).1 false)
        | some i => (u.handOver k (s.chooseLead (s.feeds.get k).out m.urgency b).1 (s.copyOn m (s.chooseLead (s.feeds.get k).out m.urgency b).1 false)).handOver
            k i (s.copyOn m i true)) := by
      cases second
      · exact .handOver _ _ _ _
      · exact (State.Keeps.handOver _ _ _ _).trans (.handOver _ _ _ _)
    generalize ((s.feeds.get k).out.twoCopies && second.isNone) = single
    cases single
    · exact copies _
    · exact (State.Keeps.countOut _ k fun x => { x with singleSends := bump x.singleSends }).trans (copies _)

theorem State.Keeps.sendDistressed (s : State) (k : FeedSlot) (m : Message) (sends : (s.feeds.get k).sends) : s.Keeps (s.sendDistressed k m) := by
  unfold State.sendDistressed
  dsimp only
  refine .trans (.setLead s k none .distress sends fun i hi => by cases hi) ?_
  split
  · exact .countOut _ _ _
  · exact (State.Keeps.countOut _ _ _).trans (.handOver _ _ _ _)

theorem State.Keeps.accept (s : State) (k : FeedSlot) (origin : Stamp) (kind : Fin 64) (payload : List Byte) (sends : (s.feeds.get k).sends) :
    s.Keeps (s.accept k origin kind payload) := by
  unfold State.accept
  dsimp only
  split
  · refine .trans (.onFeed _ k (fun x => { x with out := { x.out with
        rateCount := bump x.out.rateCount, nextSeq := x.out.nextSeq + 1, counters := { x.out.counters with accepted := bump x.out.counters.accepted } } })
      ⟨rfl, rfl, rfl, fun _ h => h, id⟩) ?_
    have sends' : ((s.onFeed k fun x => { x with out := { x.out with
        rateCount := bump x.out.rateCount, nextSeq := x.out.nextSeq + 1, counters := { x.out.counters with accepted := bump x.out.counters.accepted } } }).feeds.get k).sends := by
      rw [State.onFeed_feeds, Table.get_modify_self]
      exact sends
    unfold State.send
    split
    · next h => exact .sendSelected _ k _ sends' (State.eligible_mem (State.eligible_of_lowest h))
    · exact .sendDistressed _ k _ sends'
  · exact .countOut _ _ _

theorem State.Keeps.takeLocal (s : State) (p : Port) (origin : Stamp) (number : BitVec 16) (kind : Fin 64) (payload : List Byte) :
    s.Keeps (s.takeLocal p origin number kind payload) := by
  unfold State.takeLocal
  split
  · exact .countPort _ _ _
  · split
    · exact .countPort _ _ _
    · next k found =>
      split
      · obtain ⟨opened, direction, -⟩ := State.findFeed_some found
        exact .accept s k origin kind payload ⟨opened, direction⟩
      · exact .countPort _ _ _

theorem State.Keeps.localArrives (s : State) (p : Port) (a : Arrival) (bytes : List Byte) : s.Keeps (s.localArrives p a bytes) := by
  unfold State.localArrives
  split
  · split
    · exact .refl s
    · exact .of_parts
  · refine .trans (t := s.portQuiet p) .of_parts ?_
    unfold State.localFrame
    split
    · exact .refl _
    · split
      · exact .countPort _ _ _
      · exact .takeLocal _ _ _ _ _ _

/-! ### Inbound frames -/

/-- A judgement keeps the too-old run below 4 (R121, R122). -/
theorem SeqWindow.judgeLive_tooOld (x : SeqWindow) (w : Nat) (s : Seq) : (x.judgeLive w s).1.tooOldRun ≤ 3 := by
  unfold SeqWindow.judgeLive
  dsimp only
  split
  · exact Nat.zero_le 3
  · split
    · split <;> exact Nat.zero_le 3
    · split
      · dsimp only; omega
      · exact Nat.zero_le 3

theorem SeqWindow.judge_tooOld (x : SeqWindow) (w : Nat) (start : StartMode) (s : Seq) : (x.judge w start s).1.tooOldRun ≤ 3 := by
  unfold SeqWindow.judge
  split
  · exact x.judgeLive_tooOld w s
  · split
    · exact Nat.zero_le 3
    · exact SeqWindow.judgeLive_tooOld _ w s

theorem LocalPort.offer_fifo {p : LocalPort} (d : Delivery) (h : p.fifo.length ≤ 64) : (p.offer d).fifo.length ≤ 64 := by
  obtain ⟨-, e⟩ | ⟨room, e⟩ := p.offer_cases d <;> rw [e]
  · exact h
  · rw [List.length_append]
    exact room

theorem State.Keeps.deliver (s : State) (k : FeedSlot) (d : Delivery) : s.Keeps (s.deliver k d) := by
  unfold State.deliver
  dsimp only
  refine .trans (t := { s with ports := s.ports.mapIdx fun p (q : LocalPort) => if (s.feeds.get k).inb.mask.mem p.val then q.offer d else q })
    (.of_parts (fifos := fun p h => ?_)) (.trans (.countInb _ k fun c => { c with deliveryDrop := satAdd c.deliveryDrop (s.refusals (s.feeds.get k).inb.mask) }) ?_)
  · rw [Table.get_mapIdx]
    split
    · exact LocalPort.offer_fifo d h
    · exact h
  · split
    · exact .refl _
    · exact .onPath _ _ _ ⟨.rfl, rfl, rfl, rfl, rfl, fun _ h => h⟩

theorem State.Keeps.arbitrate (s : State) (k : FeedSlot) (d : Delivery) (seq : Seq) : s.Keeps (s.arbitrate k d seq) := by
  unfold State.arbitrate
  dsimp only
  have low := SeqWindow.judge_tooOld (s.feeds.get k).inb.window (windowSize (s.feeds.get k).inb.sizeCode) (s.feeds.get k).inb.start seq
  generalize (s.feeds.get k).inb.window.judge (windowSize (s.feeds.get k).inb.sizeCode) (s.feeds.get k).inb.start seq = judged at low ⊢
  refine .trans (.onFeed s k (fun f => { f with inb := { f.inb with window := judged.1, counters := f.inb.counters.judged judged.2 } })
    ⟨rfl, rfl, rfl, fun _ h => h, fun _ => low⟩) ?_
  have delivery (u : State) : u.Keeps (if judged.2.passes then u.deliver k d else u) := by
    split
    · exact .deliver u k d
    · exact .refl u
  cases judged.2.event with
  | none => exact delivery _
  | some e => exact (State.Keeps.raiseFeed _ e k).trans (delivery _)

theorem State.Keeps.countFrame (s : State) (line : Line) (tag : BitVec 12) (good : Bool) : s.Keeps (s.countFrame line tag good) := by
  unfold State.countFrame
  split
  · exact .refl s
  · refine .onPath _ _ _ ?_
    split
    · exact .of_weather _ _ _
    · exact .refl _ _

theorem State.Keeps.receiveFeed (s : State) (line : Line) (arrival : Stamp) (bytes : List Byte) : s.Keeps (s.receiveFeed line arrival bytes) := by
  unfold State.receiveFeed
  dsimp only
  split
  · refine (State.Keeps.countFrame s line (feedHeader bytes).tag true).trans ?_
    unfold State.takeFeed
    split
    · exact .countLine _ _ _
    · exact .arbitrate _ _ _ _
  · exact (State.Keeps.countLine _ _ _).trans (.countFrame _ _ _ _)

theorem State.Keeps.receiveKind (s : State) (line : Line) (arrival : Stamp) (bytes : List Byte) (k : FrameKind) : s.Keeps (s.receiveKind line arrival bytes k) := by
  unfold State.receiveKind
  cases k with
  | modemStatus => exact .takeModemStatus _ _ _ _
  | feed => dsimp only; split; exacts [.receiveFeed _ _ _ _, .countLine _ _ _]
  | sound => dsimp only; split; exacts [.takeSound _ _ _ _ _, .countLine _ _ _]
  | echo => dsimp only; split; exacts [.takeEcho _ _ _ _ _ _ _, .countLine _ _ _]

theorem State.Keeps.lineArrives (s : State) (line : Line) (a : Arrival) (bytes : List Byte) : s.Keeps (s.lineArrives line a bytes) := by
  unfold State.lineArrives
  split
  · split
    · exact .refl s
    · exact .of_parts
  · refine .trans (t := s.lineQuiet line) .of_parts ?_
    unfold State.lineFrame
    split
    · exact .refl _
    · split
      · split
        · exact .countLine _ _ _
        · exact .receiveKind _ _ _ _ _
      · exact .countLine _ _ _

/-! ### Timed events -/

/-- The ticks of a time base keep its slew and its tick count in range (R136). -/
theorem TimeBase.ticks_inRange {t : TimeBase} (h : t.InRange) (n : Nat) : (t.ticks n).InRange := by
  obtain ⟨low, high, slewLow, slewHigh, ticks, rest⟩ := h
  have bound : t.corrections n ≤ t.slew.natAbs := Nat.min_le_left _ _
  have after : -1000000 ≤ t.slewAfter n ∧ t.slewAfter n ≤ 1000000 := by
    unfold TimeBase.slewAfter
    obtain hs | hs | hs := lt_trichotomy t.slew 0
    · rw [Int.sign_eq_neg_one_of_neg hs]; omega
    · rw [hs]; simp
    · rw [Int.sign_eq_one_of_pos hs]; omega
  refine ⟨low, high, after.1, after.2, ?_, fun e => ?_⟩
  · unfold TimeBase.ticks
    dsimp only
    split <;> omega
  · unfold TimeBase.ticks at e ⊢
    exact if_pos e

theorem State.Preserves.tick (s : State) (n : Nat) : s.Preserves (s.tick n) := by
  unfold State.tick
  dsimp only
  split
  · exact .refl s
  · refine .trans (.of_time s (s.clock + n) (s.tb.ticks n) fun h => TimeBase.ticks_inRange h n) ?_
    split
    · exact (State.Keeps.raisePlain _ _).toPreserves
    · exact .refl _

/-- A slew ended, or a remainder in its range with no tick counted, is in range (R136, R137). -/
theorem TimeBase.InRange.slew {t u : TimeBase} (h : t.InRange) (step : u.step = t.step) (low : -1000000 ≤ u.slew) (high : u.slew ≤ 1000000) (ticks : u.slewTicks = 0) :
    u.InRange := ⟨step ▸ h.1, step ▸ h.2.1, low, high, by omega, fun _ => ticks⟩

theorem TimeBase.InRange.endSlew {t u : TimeBase} (h : t.InRange) (step : u.step = t.step) : u.endSlew.InRange :=
  .slew h step (by simp [TimeBase.endSlew]) (by simp [TimeBase.endSlew]) rfl

theorem State.Preserves.timeJump (s : State) (tb : TimeBase) (h : tb.step = s.tb.step) : s.Preserves (s.timeJump tb) :=
  .trans (.of_time s s.clock tb.endSlew fun r => .endSlew r h) ((State.Keeps.raisePlain _ .timeStepped).trans (.jump _)).toPreserves

theorem State.Preserves.ppsEdge (s : State) : s.Preserves s.ppsEdge := by
  unfold State.ppsEdge
  dsimp only
  split
  · exact .refl s
  · refine .trans (.onTb s (fun t => { t with ppsStamp := t.time, ppsCount := t.ppsCount + 1 }) id) (.trans (State.Keeps.raisePlain _ .pps).toPreserves ?_)
    split
    · exact .refl _
    · exact .trans (.onTb _ _ id) ((State.Keeps.raisePlain _ .timeSetDone).trans (.jump _)).toPreserves

theorem State.Preserves.expireSet (s : State) : s.Preserves s.expireSet := by
  unfold State.expireSet
  split
  · exact .refl s
  · split
    · exact .trans (.onTb s (fun t => { t with pendingSet := none }) id) (State.Keeps.raisePlain _ .timeSetExpired).toPreserves
    · exact .refl s

theorem Path.age1_kept (set : Settings) (p : Path) (limit : Nat) : p.Kept set (p.age1 limit) := by
  unfold Path.age1
  split
  · exact ⟨.rfl, rfl, rfl, rfl, rfl, fun _ h => h⟩
  · exact .refl set p

theorem Feed.clearRate_kept (s : State) (f : Feed) : f.Kept s f.clearRate := by
  unfold Feed.clearRate
  split
  · exact ⟨rfl, rfl, rfl, fun _ h => h, id⟩
  · exact .refl s f

theorem State.Keeps.msTick (s : State) : s.Keeps s.msTick := by
  unfold State.msTick
  dsimp only
  split
  · exact .refl s
  · refine .trans (t := { s with
      nextMs := s.nextMs + Config.ticksPerMilli, feeds := s.feeds.map Feed.clearRate, window := s.window.map fun x => { x with elapsed := x.elapsed + 1 } })
      (.of_parts (feeds := fun k => ?_)) ?_
    · rw [Table.get_map]
      exact Feed.clearRate_kept _ _
    · split
      · exact .refl _
      · unfold State.ageAll
        refine .trans (.of_parts (paths := fun i => ?_)) (.raisePaths _ _ _)
        rw [Table.get_map]
        exact Path.age1_kept _ _ _

theorem Path.closeWindow_kept (set : Settings) (p : Path) (g : Fin 8) : p.Kept set (p.closeWindow set g) := by
  unfold Path.closeWindow
  split
  · exact .of_weather set p _
  · exact .refl set p

theorem State.Keeps.windowClose (s : State) : s.Keeps s.windowClose := by
  unfold State.windowClose
  split
  · exact .refl s
  · split
    · unfold State.closeWindow
      refine .trans (.of_parts (paths := fun i => ?_)) (.trans (.raisePaths _ _ _) (.raisePaths _ _ _))
      rw [Table.get_map]
      exact Path.closeWindow_kept _ _ _
    · exact .refl s

theorem State.Keeps.statusTimer (s : State) (l : RadioLine) : s.Keeps (s.statusTimer l) := by
  unfold State.statusTimer
  split
  · exact .refl s
  · split
    · exact .timerExpires s l
    · exact .refl s

/-- The paths that fall due are measured (R25). -/
theorem State.fallingDue_measured {s : State} {i k : PathSlot} (h : (s.fallingDue i).mem k.val = true) : (s.paths.get k).measured = true := by
  unfold State.fallingDue at h
  split at h
  · exact absurd h (by simp [FlagSet.mem])
  · split at h
    · rw [FlagSet.mem_ofPred, Bool.and_eq_true] at h
      exact h.2
    · exact absurd h (by simp [FlagSet.mem])

theorem State.Keeps.soundingDue (s : State) (i : PathSlot) : s.Keeps (s.soundingDue i) := by
  unfold State.soundingDue
  dsimp only
  split
  · exact .refl s
  · refine .trans (.of_su _ _ ?_) (.serve _)
    rintro ⟨live, due, quiet⟩
    refine ⟨live, fun k => ⟨fun hk => ?_, fun hk => ?_⟩, quiet⟩
    · rw [State.onSu_su, FlagSet.mem_or, Bool.or_eq_true] at hk
      obtain hk | hk := hk
      · exact (due k).1 hk
      · exact State.fallingDue_measured hk
    · rw [State.onSu_su, FlagSet.mem_or, (due k).2 hk, Bool.true_or]

theorem State.Keeps.soundingLost (s : State) (c : ContextId) : s.Keeps (s.soundingLost c) := by
  unfold State.soundingLost
  split
  · exact .refl s
  · split
    · exact .lose s c _
    · exact .refl s

theorem State.Keeps.frameCompletion (s : State) (l : Line) : s.Keeps (s.frameCompletion l) := by
  unfold State.frameCompletion
  split
  · exact .refl s
  · next x sending =>
    split
    · exact (State.Keeps.complete s l sending).trans (.boundary _ _)
    · exact .refl s

theorem State.Keeps.localSendEnd (s : State) (p : Port) : s.Keeps (s.localSendEnd p) := by
  unfold State.localSendEnd
  split
  · exact .refl s
  · next d rest e =>
    refine .of_parts (fifos := Table.get_modify_of (r := fun a b : LocalPort => a.fifo.length ≤ 64 → b.fifo.length ≤ 64) (fun _ h => h) fun h => ?_)
    rw [e, List.length_cons] at h
    exact Nat.le_of_succ_le h

end Sys2Proof.Machine
end

section
/-! The invariants through the resets: the walk of SOFT-RESET and its end, hardware reset and its initialisation. -/

namespace Sys2Proof.Machine

/-- The command port changed as the part runs: no hardware reset, so no context need be free. -/
theorem State.Keeps.running (s : State) (f : CommandPort → CommandPort) (h : (f s.cmp).engine.off = false) : s.Keeps (s.onCmp f) where
  time := rfl
  pool h := h
  queues h := h
  soundings live := ⟨live.1, live.2.1, fun off => absurd off (by simp [State.off, h])⟩
  feeds h := h
  notices h := h
  ranges h := h

/-! ### The walk -/

/-- A path slot after the walk keeps the identity of a measured path, and is VACANT otherwise (R22). -/
theorem Path.walked_cases (p : Path) (g : Fin 8) :
    (p.measured = true ∧ p.walked g = { Path.vacant with life := p.life, line := p.line, tag := p.tag, tuning := p.tuning, weather := .fresh g })
    ∨ (p.measured = false ∧ p.walked g = .vacant) := by
  unfold Path.walked
  cases p.measured
  · exact .inr ⟨rfl, rfl⟩
  · exact .inl ⟨rfl, rfl⟩

theorem Path.walked_measured (p : Path) (g : Fin 8) : (p.walked g).measured = p.measured := by
  obtain ⟨-, e⟩ | ⟨hm, e⟩ := p.walked_cases g
  · rw [e]; rfl
  · rw [e, hm]; rfl

theorem Path.walked_queued (p : Path) (g : Fin 8) : (p.walked g).queued = 0 := by
  obtain ⟨-, e⟩ | ⟨-, e⟩ := p.walked_cases g <;> rw [e] <;> rfl

theorem Path.walked_identity {p : Path} {g : Fin 8} (h : (p.walked g).life ≠ .vacant) :
    p.life ≠ .vacant ∧ (p.walked g).line = p.line ∧ (p.walked g).tag = p.tag := by
  obtain ⟨-, e⟩ | ⟨-, e⟩ := p.walked_cases g <;> rw [e] at h ⊢
  · exact ⟨h, rfl, rfl⟩
  · exact absurd rfl h

theorem Path.walked_inRange {p : Path} (h : p.InRange) (g : Fin 8) : (p.walked g).InRange := by
  obtain ⟨-, e⟩ | ⟨-, e⟩ := p.walked_cases g <;> rw [e]
  · exact ⟨h.1, by simp [Path.vacant], by simp [Path.vacant], by simp [Path.vacant], by simp [Path.vacant]⟩
  · exact Path.vacant_inRange

/-- A feed slot after the walk: its identity and its path set stay, its lead is absent (R97). -/
theorem Feed.walked_cases (f : Feed) : (f.opened = true ∧ f.walked = { f with out := f.out.walked, inb := f.inb.walked }) ∨ (f.opened = false ∧ f.walked = f) := by
  unfold Feed.walked
  cases h : f.opened
  · exact .inr ⟨rfl, rfl⟩
  · exact .inl ⟨rfl, rfl⟩

theorem Feed.walked_kept (s : State) (f : Feed) : f.Kept s f.walked := by
  obtain ⟨-, e⟩ | ⟨-, e⟩ := f.walked_cases <;> rw [e]
  · exact ⟨rfl, rfl, rfl, fun _ h => ⟨h.1, h.2.1, by simp [OutFields.walked]⟩, fun _ => Nat.zero_le 3⟩
  · exact .refl s f

/-- Queues that hold nothing are counted when every path's count is 0. -/
theorem State.QueuesCounted.of_empty {s : State} (frames : ∀ l, (s.lines.get l).frames = []) (queued : ∀ i, (s.paths.get i).queued = 0) : s.QueuesCounted := by
  refine ⟨fun i _ => ?_, fun l f hf => ?_⟩
  · rw [queued, LinePort.framesOf, frames]; rfl
  · rw [frames] at hf; cases hf

/-- A pool whose queues hold nothing is whole with 4,096 free cells. -/
theorem State.PoolWhole.of_empty {s : State} (cells : s.freeCells = 4096) (frames : ∀ l, (s.lines.get l).frames = []) : s.PoolWhole := by
  rw [State.PoolWhole, State.cellsQueued_eq_sum, cells, Finset.sum_eq_zero fun l _ => by rw [frames]; rfl, Nat.add_zero]

/-- The walk of SOFT-RESET keeps the invariants. -/
theorem State.Keeps.startWalk (s : State) : s.Keeps s.startWalk := by
  rw [State.startWalk_eq]
  have frames : ∀ l, ((s.lines.map fun p : LinePort => p.stopped.walked).get l).frames = [] := fun l => by rw [Table.get_map]; rfl
  have life {i : PathSlot} (g : Fin 8) := (s.paths.get i).walked_measured g
  refine ⟨⟨fun _ => .of_empty rfl frames, fun h => ⟨h.1.mono fun i hi => ?_, .of_empty frames fun i => ?_⟩, fun _ => ⟨?_, fun i => ⟨?_, ?_⟩, ?_⟩, ?_, fun _ => ?_, ?_⟩, rfl⟩
  · dsimp only at hi ⊢
    rw [Table.get_map] at hi ⊢
    exact Path.walked_identity hi
  · dsimp only
    rw [Table.get_map, Path.walked_queued]
  · exact fun c x hx => absurd hx (by simp)
  · exact fun hi => absurd hi (by simp)
  · exact fun hi => absurd hi (by simp)
  · exact fun off => absurd off (by simp [State.off, Engine.off])
  · rintro ⟨numbers, refs⟩
    have kept (k : FeedSlot) : (s.feeds.get k).Kept s ((s.feeds.map Feed.walked).get k) := by rw [Table.get_map]; exact Feed.walked_kept s _
    refine ⟨fun i k hik hi hk => ?_, fun k hk => ?_⟩
    · dsimp only at hi hk ⊢
      rw [(kept i).opened] at hi
      rw [(kept k).opened] at hk
      rw [(kept i).direction, (kept k).direction, (kept i).number, (kept k).number]
      exact numbers i k hik hi hk
    · have old := (kept k).sends_iff.1 hk
      obtain ⟨set, pin, lead⟩ := (kept k).refers old (refs k old)
      refine ⟨fun i hi => ?_, pin, lead⟩
      dsimp only
      rw [Table.get_map, Path.walked_measured]
      exact set i hi
  · exact ⟨fun _ k => by simp [NoticeUnit.clear], fun n hn => (by cases hn), fun k hk => absurd hk (by simp [NoticeUnit.clear])⟩
  · rintro ⟨⟨-, -, onFeeds⟩, inSettings, inPaths, inTb⟩
    refine ⟨⟨fun l => ?_, fun p => ?_, fun k => ?_⟩, inSettings, fun i => ?_, inTb⟩ <;> dsimp only
    · rw [Table.get_map]; exact ⟨Nat.zero_le 4, Nat.zero_le 8⟩
    · rw [Table.get_replicate]; exact Nat.zero_le 64
    · rw [Table.get_map]; exact (Feed.walked_kept s _).tooOld (onFeeds k)
    · rw [Table.get_map]; exact Path.walked_inRange (inPaths i) _

/-! ### The end of the walk -/

theorem State.Keeps.settlePresence (s : State) (l : RadioLine) : s.Keeps (s.settlePresence l) := by
  unfold State.settlePresence
  split
  · exact .fitModem s l
  · exact .removeModem s l
  · exact .refl s
  · exact .refl s

theorem State.Keeps.settleLock (s : State) (l : FibreLine) : s.Keeps (s.settleLock l) := by
  unfold State.settleLock
  split
  · exact .gainLock s l
  · exact .loseLock s l
  · exact .refl s
  · exact .refl s

/-- Every measured path made due (R42): the due paths are measured ones, and each waiting path is among them. -/
theorem State.Keeps.allDue (s : State) (micros : Nat) : s.Keeps (s.onSu (·.allDue (fun i => (s.paths.get i).measured) micros)) := by
  refine .of_su _ _ ?_
  rintro ⟨live, due, quiet⟩
  refine ⟨live, fun i => ?_, quiet⟩
  simp only [State.onSu_su, State.onSu_paths, SoundingUnit.allDue, FlagSet.mem_ofPred]
  exact ⟨id, fun h => (due i).1 ((due i).2 h)⟩

theorem State.Keeps.restartTimers (s : State) : s.Keeps s.restartTimers :=
  .of_parts (lines := fun l => by
    unfold State.restartTimers
    rw [Table.get_mapIdx]
    exact ⟨rfl, id, id, id⟩)

theorem State.Keeps.wake (s : State) : s.Keeps s.wake :=
  .trans (.allDue s s.micros) (.trans (.serve _) (.trans (.foldl .settlePresence (List.finRange 4) _) (.trans (.foldl .settleLock (List.finRange 2) _) (.restartTimers _))))

theorem State.Keeps.endWalk (s : State) : s.Keeps s.endWalk := by
  unfold State.endWalk
  split
  · exact .trans (.running s (fun c => { c with engine := .idle }) rfl) (.trans (.wake _) (.trans (.raisePlain _ .softResetDone) (.onCmp _ _ rfl)))
  · exact .refl s

/-! ### Hardware reset and initialisation -/

theorem Settings.reset_inRange : Settings.reset.InRange := by unfold Settings.InRange; decide

theorem TimeBase.reset_inRange : TimeBase.reset.InRange := by unfold TimeBase.InRange; decide

section Hardware
variable (e : Engine) (presentPin : FlagSet 4) (lockPin : FlagSet 2) (pending : List Instr)

theorem State.hardware_frames (l : Line) : ((State.hardware e presentPin lockPin pending).lines.get l).frames = [] := by
  simp only [State.hardware, Table.get_replicate]; rfl

theorem State.hardware_path (i : PathSlot) : (State.hardware e presentPin lockPin pending).paths.get i = .vacant := by
  simp only [State.hardware, Table.get_replicate]

theorem State.hardware_feed (k : FeedSlot) : (State.hardware e presentPin lockPin pending).feeds.get k = .closed := by
  simp only [State.hardware, Table.get_replicate]

theorem State.hardware_pool : (State.hardware e presentPin lockPin pending).PoolWhole := .of_empty rfl (State.hardware_frames _ _ _ _)

theorem State.hardware_identities : (State.hardware e presentPin lockPin pending).IdentitiesUnique := by
  intro i _ _ hi
  rw [State.hardware_path] at hi
  exact absurd rfl hi

theorem State.hardware_queues : (State.hardware e presentPin lockPin pending).QueuesCounted :=
  .of_empty (State.hardware_frames _ _ _ _) fun i => by rw [State.hardware_path]; rfl

theorem State.hardware_soundings : (State.hardware e presentPin lockPin pending).SoundingsLive := by
  have free (c : ContextId) : (State.hardware e presentPin lockPin pending).su.contexts.get c = none := by
    simp only [State.hardware, SoundingUnit.reset, Table.get_replicate]
  refine ⟨fun c x hx => ?_, fun i => ⟨fun hi => ?_, fun hi => ?_⟩, fun _ => free⟩
  · rw [free] at hx; cases hx
  · exact absurd hi (by simp [State.hardware, SoundingUnit.reset])
  · exact absurd hi (by simp [State.hardware, SoundingUnit.reset])

theorem State.hardware_feeds : (State.hardware e presentPin lockPin pending).FeedsSound := by
  refine ⟨fun i k _ hi => ?_, fun k hk => ?_⟩
  · rw [State.hardware_feed] at hi; cases hi
  · rw [State.hardware_feed] at hk; exact absurd hk.1 (by simp [Feed.closed])

theorem State.hardware_notices : (State.hardware e presentPin lockPin pending).NoticesOrderly :=
  ⟨fun _ k => by simp [State.hardware, NoticeUnit.clear], fun n hn => (by cases hn), fun k hk => absurd hk (by simp [State.hardware, NoticeUnit.clear])⟩

theorem State.hardware_lists : (State.hardware e presentPin lockPin pending).ListsBounded := by
  refine ⟨fun l => ?_, fun p => ?_, fun k => ?_⟩
  · simp only [State.hardware, Table.get_replicate]; exact ⟨Nat.zero_le 4, Nat.zero_le 8⟩
  · simp only [State.hardware, Table.get_replicate]; exact Nat.zero_le 64
  · rw [State.hardware_feed]; exact Nat.zero_le 3

theorem State.hardware_values : (State.hardware e presentPin lockPin pending).ValuesInRange :=
  ⟨Settings.reset_inRange, fun i => by rw [State.hardware_path]; exact Path.vacant_inRange, TimeBase.reset_inRange⟩

end Hardware

/-- Whatever held before, the hardware-reset values meet every invariant. -/
theorem State.Preserves.hardware (s : State) (e : Engine) (presentPin : FlagSet 4) (lockPin : FlagSet 2) (pending : List Instr) :
    s.Preserves (.hardware e presentPin lockPin pending) where
  pool _ := State.hardware_pool ..
  queues _ := ⟨State.hardware_identities _ _ _ _, State.hardware_queues ..⟩
  soundings _ := State.hardware_soundings ..
  feeds _ := State.hardware_feeds ..
  notices _ := State.hardware_notices ..
  ranges _ := ⟨State.hardware_lists .., State.hardware_values ..⟩

theorem State.Preserves.resetPin (s : State) (level : ResetLevel) : s.Preserves (s.resetPin level) := by
  unfold State.resetPin
  split
  · exact .hardware ..
  · split
    · exact .hardware ..
    · exact .refl s

/-- A line whose presence and lock are sampled keeps its frames, its echo entries and its ratio counter (R76). -/
theorem LinePort.sampled_lists (presentPin : FlagSet 4) (lockPin : FlagSet 2) (l : Line) (p : LinePort) :
    (p.sampled presentPin lockPin l).frames = p.frames ∧ (p.sampled presentPin lockPin l).echoes = p.echoes ∧ (p.sampled presentPin lockPin l).ratioCount = p.ratioCount := by
  unfold LinePort.sampled
  split <;> exact ⟨rfl, rfl, rfl⟩

/-- The end of initialisation may take carrier away, but no context stands then (R42, R76). -/
theorem State.Keeps.endInitialisation (s : State) : s.Keeps s.endInitialisation := by
  unfold State.endInitialisation
  split
  · next initialising =>
    have sampled (l : Line) := LinePort.sampled_lists s.presentPin s.lockPin l (s.lines.get l)
    have frames (l : Line) : ((s.lines.mapIdx (LinePort.sampled s.presentPin s.lockPin)).get l).frames = (s.lines.get l).frames := by
      rw [Table.get_mapIdx]; exact (sampled l).1
    refine ⟨⟨fun h => h.congr rfl frames, fun h => ⟨h.1, h.2.congr (fun _ => .rfl) (fun _ => rfl) (fun _ => rfl) (fun _ => rfl) frames⟩, ?_, fun h => h, fun h => h, ?_⟩, rfl⟩
    · rintro ⟨-, due, quiet⟩
      refine ⟨fun c x hx => ?_, due, fun off => absurd off (by simp [State.off, Engine.off])⟩
      have free := quiet (by rw [State.off, initialising]; rfl) c
      exact absurd (free.symm.trans hx) (by simp)
    · rintro ⟨⟨onLines, onPorts, onFeeds⟩, values⟩
      refine ⟨⟨fun l => ?_, onPorts, onFeeds⟩, values⟩
      dsimp only
      rw [Table.get_mapIdx, (sampled l).2.1, (sampled l).2.2]
      exact onLines l
  · exact .refl s

end Sys2Proof.Machine
end

section
/-! The invariants through the requests of the command port, and with them through every step. -/

namespace Sys2Proof.Machine

/-! ### Values brought into range (R4, R16, R172) -/

theorem keptValue_clampNat_mem {lo hi old : Nat} (le : lo ≤ hi) (given : Option Nat) (h : lo ≤ old ∧ old ≤ hi) :
    lo ≤ keptValue (clampNat lo hi) given old ∧ keptValue (clampNat lo hi) given old ≤ hi := by
  cases given with
  | none => exact h
  | some v => exact clampNat_mem le v

theorem keptValue_clampInt_mem {lo hi old : Int} (le : lo ≤ hi) (given : Option Int) (h : lo ≤ old ∧ old ≤ hi) :
    lo ≤ keptValue (clampInt lo hi) given old ∧ keptValue (clampInt lo hi) given old ≤ hi := by
  cases given with
  | none => exact h
  | some v => exact clampInt_mem le v

theorem TuningRequest.kept_inRange (r : TuningRequest) {old : Tuning} (h : old.InRange) : (r.kept old).InRange := by
  obtain ⟨nominal, asymLow, asymHigh, shift, spikeLow, spikeHigh, interLow, interHigh, timeout⟩ := h
  have asym := keptValue_clampInt_mem (by decide) r.asymmetry ⟨asymLow, asymHigh⟩
  have spike := keptValue_clampNat_mem (by decide) r.spike ⟨spikeLow, spikeHigh⟩
  have inter := keptValue_clampNat_mem (by decide) r.interval ⟨interLow, interHigh⟩
  exact ⟨(keptValue_clampNat_mem (by decide) r.nominal ⟨Nat.zero_le _, nominal⟩).2, asym.1, asym.2,
    (keptValue_clampNat_mem (by decide) r.shift ⟨Nat.zero_le _, shift⟩).2, spike.1, spike.2, inter.1, inter.2,
    (keptValue_clampNat_mem (by decide) r.timeout ⟨Nat.zero_le _, timeout⟩).2⟩

theorem Tuning.defaults_inRange : Tuning.defaults.InRange := by unfold Tuning.InRange; decide

/-- SYSTEM-SET keeps the settings in range, M at most F (R74, R172). -/
theorem SettingsRequest.kept_inRange (r : SettingsRequest) {old : Settings} (h : old.InRange) : (r.kept old).InRange := by
  obtain ⟨countLow, countHigh, tolerance, ageLow, ageHigh, penalty, jitter, lengthLow, lengthHigh, marginalLow, marginalHigh, fade, floor,
    settleLow, settleHigh, recoveryLow, recoveryHigh, margin⟩ := h
  have count := keptValue_clampNat_mem (by decide) r.trialCount ⟨countLow, countHigh⟩
  have age := keptValue_clampNat_mem (by decide) r.ageLimit ⟨ageLow, ageHigh⟩
  have length := keptValue_clampNat_mem (by decide) r.windowLength ⟨lengthLow, lengthHigh⟩
  have fadeThreshold := keptValue_clampNat_mem (by decide) r.fadeThreshold ⟨marginalLow.trans marginalHigh, fade⟩
  have marginal := keptValue_clampNat_mem (by decide) r.marginalThreshold ⟨marginalLow, marginalHigh.trans fade⟩
  have settle := keptValue_clampNat_mem (by decide) r.settleWindows ⟨settleLow, settleHigh⟩
  have recovery := keptValue_clampNat_mem (by decide) r.recoveryWindows ⟨recoveryLow, recoveryHigh⟩
  exact ⟨count.1, count.2, (keptValue_clampNat_mem (by decide) r.trialTolerance ⟨Nat.zero_le _, tolerance⟩).2, age.1, age.2,
    (keptValue_clampNat_mem (by decide) r.marginPenalty ⟨Nat.zero_le _, penalty⟩).2,
    (keptValue_clampNat_mem (by decide) r.jitterFactor ⟨Nat.zero_le _, jitter⟩).2, length.1, length.2,
    Nat.le_min.2 ⟨marginal.1, fadeThreshold.1⟩, Nat.min_le_right _ _, fadeThreshold.2,
    (keptValue_clampNat_mem (by decide) r.gradeFloor ⟨Nat.zero_le _, floor⟩).2, settle.1, settle.2, recovery.1, recovery.2,
    (keptValue_clampNat_mem (by decide) r.switchMargin ⟨Nat.zero_le _, margin⟩).2⟩

/-! ### The outcomes that requests share -/

section Replies
variable {s : State} {act : State × Reply}

theorem State.Keeps.ofLength (n : Nat) (body : List Byte) (h : s.Keeps act.1) : s.Keeps (s.ofLength n body act).1 := by
  unfold State.ofLength
  split
  · exact h
  · exact .refl s

theorem State.Keeps.parsed {α : Type} (form : Option α) {run : α → State × Reply} (h : ∀ x, s.Keeps (run x).1) : s.Keeps (s.parsed form run).1 := by
  cases form with
  | none => exact .refl s
  | some x => exact h x

theorem State.Keeps.checkPath (i : PathSlot) (allowed : Lifecycle → Bool) (h : (s.paths.get i).life ≠ .vacant → allowed (s.paths.get i).life = true → s.Keeps act.1) :
    s.Keeps (s.checkPath i allowed act).1 := by
  obtain ⟨-, e⟩ | ⟨live, ok, e⟩ | ⟨-, -, e⟩ := s.checkPath_cases i allowed act <;> rw [e]
  · exact .refl s
  · exact h live ok
  · exact .refl s

theorem State.Keeps.slotCommand (body : List Byte) (allowed : Lifecycle → Bool) {run : PathSlot → State × Reply}
    (h : ∀ i, (s.paths.get i).life ≠ .vacant → allowed (s.paths.get i).life = true → s.Keeps (run i).1) : s.Keeps (s.slotCommand body allowed run).1 :=
  .ofLength 1 body (.parsed _ fun i => .checkPath i allowed (h i))

theorem State.Keeps.checkFeed (k : FeedSlot) (h : (s.feeds.get k).opened = true → s.Keeps act.1) : s.Keeps (s.checkFeed k act).1 := by
  obtain ⟨opened, e⟩ | ⟨-, e⟩ := s.checkFeed_cases k act <;> rw [e]
  · exact h opened
  · exact .refl s

theorem State.Keeps.checkDirection (k : FeedSlot) (d : Direction) (h : (s.feeds.get k).opened = true → (s.feeds.get k).direction = d → s.Keeps act.1) :
    s.Keeps (s.checkDirection k d act).1 := by
  unfold State.checkDirection
  split
  · exact .refl s
  · next opened =>
    split
    · next direction => exact h (by simpa using opened) direction
    · exact .refl s

end Replies

theorem State.Keeps.taken (s : State) (body : List Byte) : s.Keeps (s.taken body) := .onCmp _ _ rfl

/-- A request keeps the invariants when its run does: the engine it leaves is WORKING. -/
theorem State.Keeps.request (s : State) (code : Byte) (body : List Byte) {run : State → State × Reply} (h : ∀ u : State, u.Keeps (run u).1) :
    s.Keeps (s.request code body run) := by
  unfold State.request
  split
  · exact (State.Keeps.taken s body).trans ((h _).trans (.running _ _ rfl))
  · exact .onCmp _ _ rfl

theorem State.Keeps.completeCommand (s : State) : s.Keeps s.completeCommand := by
  unfold State.completeCommand
  split
  · exact .running _ _ rfl
  all_goals exact .refl s

theorem State.Keeps.readResponse (s : State) (n : Nat) : s.Keeps (s.readResponse n) := by
  unfold State.readResponse
  split <;> exact .onCmp _ _ rfl

theorem State.Keeps.readStatus (s : State) (further : Bool) : s.Keeps (s.readStatus further) := .onCmp _ _ rfl

/-! ### The path commands -/

/-- The slot PATH-ADD takes is VACANT (R4). -/
theorem State.slotForPath_vacant {s : State} {choice : SlotChoice 32} {i : PathSlot} (h : s.slotForPath choice = .ok i) : (s.paths.get i).life = .vacant := by
  unfold State.slotForPath at h
  split at h
  · split at h
    · next vacant => cases h; exact vacant
    · cases h
  · split at h
    · cases h
    · next found => cases h; simpa using (Table.lowest_some found).1

theorem Path.added_inRange (line : Line) (tag : BitVec 12) {tuning : Tuning} (h : tuning.InRange) (g : Fin 8) : (Path.added line tag tuning g).InRange :=
  ⟨h, by simp [Path.added, Path.vacant], by simp [Path.added, Path.vacant], by simp [Path.added, Path.vacant], by simp [Path.added, Path.vacant]⟩

theorem Path.measured_of_vacant {p : Path} (h : p.life = .vacant) : p.measured = false := by simp [Path.measured, h]

/-- A new path of a free identity in a VACANT slot keeps identities unique and the queues counted: no frame is queued under its identity. -/
theorem State.QueuesCounted.addPath {s : State} (h : s.IdentitiesUnique ∧ s.QueuesCounted) {i : PathSlot} {r : PathAddRequest}
    (free : s.findPath r.line r.tag = none) (vacant : (s.paths.get i).life = .vacant) : (s.addPath i r).IdentitiesUnique ∧ (s.addPath i r).QueuesCounted := by
  obtain ⟨unique, count, named⟩ := h
  have self : (s.addPath i r).paths.get i = Path.added r.line r.tag (r.tuning.kept .defaults) (s.lines.get r.line).grade := Table.get_modify_self _ _ _
  have other {k : PathSlot} (ne : k ≠ i) : (s.addPath i r).paths.get k = s.paths.get k := Table.get_modify_ne _ ne _
  have unheld (k : PathSlot) (live : (s.paths.get k).life ≠ .vacant) : ¬ ((s.paths.get k).line = r.line ∧ (s.paths.get k).tag = r.tag) := fun e => by
    have held := Path.holds_iff.2 ⟨live, e.1, e.2⟩
    rw [State.findPath_none.1 free k] at held
    cases held
  have unqueued : (s.lines.get r.line).framesOf r.tag = 0 := by
    refine List.length_eq_zero_iff.2 (List.filter_eq_nil_iff.2 fun f hf e => ?_)
    obtain ⟨k, live, line, tag⟩ := named r.line f hf
    exact unheld k live ⟨line, tag.trans (of_decide_eq_true e)⟩
  refine ⟨fun a b ab ha hb => ?_, fun k hk => ?_, fun l f hf => ?_⟩
  · by_cases ai : a = i
    · subst ai
      have bi : b ≠ a := ab.symm
      rw [other bi] at hb ⊢
      rw [self]
      exact fun e => unheld b hb ⟨e.1.symm, e.2.symm⟩
    · rw [other ai] at ha ⊢
      by_cases bi : b = i
      · subst bi
        rw [self]
        exact unheld a ha
      · rw [other bi] at hb ⊢
        exact unique a b ab ha hb
  · by_cases ki : k = i
    · subst ki
      rw [self]
      exact unqueued.symm
    · rw [other ki] at hk ⊢
      exact count k hk
  · obtain ⟨k, live, id⟩ := named l f hf
    have ki : k ≠ i := by
      rintro rfl
      exact live vacant
    exact ⟨k, by rwa [other ki], by rwa [other ki]⟩

theorem State.Keeps.addPath (s : State) {i : PathSlot} {r : PathAddRequest} (free : s.findPath r.line r.tag = none) (vacant : (s.paths.get i).life = .vacant) :
    s.Keeps (s.addPath i r) := by
  have self : (s.addPath i r).paths.get i = Path.added r.line r.tag (r.tuning.kept .defaults) (s.lines.get r.line).grade := Table.get_modify_self _ _ _
  have other {k : PathSlot} (ne : k ≠ i) : (s.addPath i r).paths.get k = s.paths.get k := Table.get_modify_ne _ ne _
  have unmeasured := Path.measured_of_vacant vacant
  have old {k : PathSlot} (h : (s.paths.get k).measured = true) : (s.addPath i r).paths.get k = s.paths.get k := other fun e => by
    rw [e, unmeasured] at h
    cases h
  refine ⟨⟨fun h => h, fun h => State.QueuesCounted.addPath h free vacant, ?_, ?_, fun h => h, ?_⟩, rfl⟩
  · rintro ⟨live, due, quiet⟩
    refine ⟨fun c x hx => ?_, fun k => ⟨fun hk => ?_, fun hk => ?_⟩, quiet⟩
    · rw [old (live c x hx).1]
      exact live c x hx
    · have hk : (s.su.due.erase i.val).mem k.val = true := hk
      rw [FlagSet.mem_erase_fin, Bool.and_eq_true] at hk
      have measured := (due k).1 hk.1
      rw [old measured]
      exact measured
    · have hk : (s.su.waiting.erase i.val).mem k.val = true := hk
      change (s.su.due.erase i.val).mem k.val = true
      rw [FlagSet.mem_erase_fin, Bool.and_eq_true] at hk ⊢
      exact ⟨(due k).2 hk.1, hk.2⟩
  · rintro ⟨numbers, refs⟩
    refine ⟨numbers, fun k hk => ?_⟩
    obtain ⟨set, pin, lead⟩ := refs k hk
    refine ⟨fun m hm => ?_, pin, lead⟩
    rw [old (set m hm)]
    exact set m hm
  · rintro ⟨lists, inSettings, inPaths, inTb⟩
    refine ⟨lists, inSettings, fun k => ?_, inTb⟩
    by_cases ki : k = i
    · rw [ki, self]
      exact Path.added_inRange _ _ (r.tuning.kept_inRange Tuning.defaults_inRange) _
    · rw [other ki]
      exact inPaths k

theorem State.Keeps.pathAdd (s : State) (r : PathAddRequest) : s.Keeps (s.pathAdd r).1 := by
  unfold State.pathAdd
  split
  · exact .refl s
  · next free =>
    split
    · exact .refl s
    · next ok => exact .addPath s (by simpa using free) (State.slotForPath_vacant ok)

theorem State.Keeps.pathSet (s : State) (i : PathSlot) (r : TuningRequest) : s.Keeps (s.pathSet i r).1 :=
  .checkPath i Lifecycle.active fun _ _ => .onPath s i _ ⟨.rfl, rfl, rfl, rfl, rfl, fun _ h => ⟨r.kept_inRange h.1, h.2⟩⟩

theorem State.Keeps.pathHold (s : State) (body : List Byte) : s.Keeps (s.pathHold body).1 :=
  .slotCommand body _ fun i live ok => .onPath s i _ (by
    have e : (s.paths.get i).life = .inService := by simpa using ok
    exact ⟨by simp [e], by simp [Path.measured, e], rfl, rfl, rfl, fun _ h => ⟨h.1, h.2.1, h.2.2.1, h.2.2.2.1, by simp⟩⟩)

theorem State.Keeps.pathRelease (s : State) (body : List Byte) : s.Keeps (s.pathRelease body).1 :=
  .slotCommand body _ fun i live ok => .onPath s i _ (by
    have e : (s.paths.get i).life = .held := by simpa using ok
    exact ⟨by simp [e], by simp [Path.measured, e], rfl, rfl, rfl, fun _ h => ⟨h.1, h.2.1, h.2.2.1, h.2.2.2.1, by simp⟩⟩)

theorem State.Keeps.pathRequalify (s : State) (body : List Byte) : s.Keeps (s.pathRequalify body).1 :=
  .slotCommand body _ fun i live ok => .onPath s i _ (by
    have measured : (s.paths.get i).measured = true := by
      simp only [Bool.or_eq_true, decide_eq_true_eq] at ok
      simp [Path.measured, ok, or_assoc]
    exact ⟨by simp [Path.requalified, live], by rw [measured]; rfl, rfl, rfl, rfl,
      fun _ h => ⟨h.1, Nat.zero_le _, Nat.zero_le _, Nat.zero_le _, fun _ => Nat.zero_le _⟩⟩)

theorem State.Keeps.pathRetire (s : State) (body : List Byte) : s.Keeps (s.pathRetire body).1 :=
  .slotCommand body _ fun i live _ => .retire s i live

theorem State.Keeps.pathRead (s : State) (body : List Byte) : s.Keeps (s.pathRead body).1 :=
  .ofLength 2 body (.parsed _ fun i => by
    dsimp only
    split
    · exact .onPath s i Path.zeroCounters ⟨.rfl, rfl, rfl, rfl, rfl, fun _ h => h⟩
    · exact .refl s)

theorem State.Keeps.pathFind (s : State) (body : List Byte) : s.Keeps (s.pathFind body).1 :=
  .ofLength 3 body (.parsed _ fun line => .parsed _ fun tag => by unfold State.lookPath; split <;> exact .refl s)

/-! ### The feed commands -/

/-- The slot FEED-OPEN takes is CLOSED, and no OPEN feed of the direction has the number (R78). -/
theorem State.slotForFeed_ok {s : State} {d : Direction} {n : BitVec 16} {choice : SlotChoice 64} {k : FeedSlot} (h : s.slotForFeed d n choice = .ok k) :
    s.findFeed d n = none ∧ (s.feeds.get k).opened = false := by
  unfold State.slotForFeed at h
  split at h
  · cases h
  · next free =>
    refine ⟨by simpa using free, ?_⟩
    split at h
    · split at h
      · cases h
      · next closed => cases h; simpa using closed
    · split at h
      · cases h
      · next found => cases h; simpa using (Table.lowest_some found).1

/-- The members that FEED-OPEN and FEED-SET keep are measured (R79, R80). -/
theorem State.livePaths_measured {s : State} {set : FlagSet 32} {i : PathSlot} (h : (s.livePaths set).mem i.val = true) : (s.paths.get i).measured = true := by
  rw [State.livePaths, FlagSet.mem_ofPred, Bool.and_eq_true] at h
  exact h.2

theorem keepMember_mem {set : FlagSet 32} {p : Option PathSlot} {i : PathSlot} (h : keepMember set p = some i) : set.mem i.val = true :=
  (Option.filter_eq_some_iff.1 h).2

/-- A feed opened in a CLOSED slot under a free number, with sound references, keeps the invariants. -/
theorem State.Keeps.openFeed (s : State) {k : FeedSlot} {f : Feed} (closed : (s.feeds.get k).opened = false) (free : s.findFeed f.direction f.number = none)
    (refers : f.sends → s.RefersLive f) (tooOld : f.inb.window.tooOldRun ≤ 3) : s.Keeps (s.onFeed k fun _ => f) := by
  have self : (s.onFeed k fun _ => f).feeds.get k = f := Table.get_modify_self _ _ _
  have other {m : FeedSlot} (ne : m ≠ k) : (s.onFeed k fun _ => f).feeds.get m = s.feeds.get m := Table.get_modify_ne _ ne _
  have unnumbered (m : FeedSlot) (opened : (s.feeds.get m).opened = true) : ¬ ((s.feeds.get m).direction = f.direction ∧ (s.feeds.get m).number = f.number) :=
    fun e => State.findFeed_none.1 free m ⟨opened, e⟩
  refine ⟨⟨fun h => h, fun h => h, fun h => h, ?_, ?_, ?_⟩, rfl⟩
  · rintro ⟨numbers, refs⟩
    refine ⟨fun a b ab ha hb => ?_, fun m hm => ?_⟩
    · by_cases ak : a = k
      · subst ak
        have bk : b ≠ a := ab.symm
        rw [other bk] at hb ⊢
        rw [self]
        exact fun e => unnumbered b hb ⟨e.1.symm, e.2.symm⟩
      · rw [other ak] at ha ⊢
        by_cases bk : b = k
        · subst bk
          rw [self]
          exact unnumbered a ha
        · rw [other bk] at hb ⊢
          exact numbers a b ab ha hb
    · by_cases mk : m = k
      · subst mk
        rw [self] at hm ⊢
        exact refers hm
      · rw [other mk] at hm ⊢
        exact refs m hm
  · rintro ⟨empty, latched, named⟩
    refine ⟨empty, latched, fun m hm => ?_⟩
    have sends := named m hm
    rw [other fun e => by rw [e, Feed.sends, closed] at sends; exact absurd sends.1 (by simp)]
    exact sends
  · rintro ⟨⟨onLines, onPorts, onFeeds⟩, values⟩
    refine ⟨⟨onLines, onPorts, fun m => ?_⟩, values⟩
    by_cases mk : m = k
    · rw [mk, self]; exact tooOld
    · rw [other mk]; exact onFeeds m

theorem State.openedOut_refersLive (s : State) (r : OpenOutRequest) : s.RefersLive (s.openedOut r) :=
  ⟨fun _ h => State.livePaths_measured h, fun _ h => keepMember_mem h, fun _ h => absurd h (by simp [State.openedOut, OutFields.closed])⟩

theorem State.Keeps.openOut (s : State) (r : OpenOutRequest) : s.Keeps (s.openOut r).1 := by
  unfold State.openOut
  split
  · exact .refl s
  · next ok =>
    obtain ⟨free, closed⟩ := State.slotForFeed_ok ok
    exact .openFeed s closed free (fun _ => s.openedOut_refersLive r) (Nat.zero_le 3)

theorem State.Keeps.openIn (s : State) (r : OpenInRequest) : s.Keeps (s.openIn r).1 := by
  unfold State.openIn
  split
  · exact .refl s
  · next ok =>
    obtain ⟨free, closed⟩ := State.slotForFeed_ok ok
    exact .openFeed s closed free (fun sends => absurd sends.2 (by simp [OpenInRequest.feed])) (Nat.zero_le 3)

theorem State.Keeps.feedOpen (s : State) (body : List Byte) : s.Keeps (s.feedOpen body).1 := by
  unfold State.feedOpen
  split
  · exact .refl s
  · exact .parsed _ (.openOut s)
  · exact .parsed _ (.openIn s)

/-- What FEED-SET makes of a lead: one in the path set stays, one outside it becomes absent with a notice PATH GONE (R80). -/
theorem State.dropLead_cases (s : State) (k : FeedSlot) :
    (keepMember (s.feeds.get k).out.pathSet (s.feeds.get k).out.lead = (s.feeds.get k).out.lead ∧ s.dropLead k = s)
    ∨ (keepMember (s.feeds.get k).out.pathSet (s.feeds.get k).out.lead = none ∧ (s.feeds.get k).out.lead ≠ none
      ∧ s.dropLead k = { s with
          feeds := s.feeds.modify k fun f => { f with out := { f.out with lead := none } }
          nu := s.nu.take ⟨k, (s.feeds.get k).number, (s.feeds.get k).out.lead, none, .pathGone, s.tb.time⟩ }) := by
  unfold State.dropLead
  cases h : (s.feeds.get k).out.lead with
  | none => exact .inl ⟨rfl, rfl⟩
  | some l =>
    cases hm : (s.feeds.get k).out.pathSet.mem l.val with
    | true => exact .inl ⟨by simp [keepMember, hm], by simp [hm]⟩
    | false =>
      obtain ⟨e, -⟩ | ⟨-, e⟩ := s.setLead_cases k none .pathGone
      · rw [h] at e; cases e
      · refine .inr ⟨by simp [keepMember, hm], by simp, ?_⟩
        simp only [hm, Bool.false_eq_true, if_false]
        rw [e, h]

/-- The set and the pin that FEED-SET leaves are sound (R80); the lead is settled after. -/
theorem State.setOut_refersLive {s : State} {f : Feed} (h : s.RefersLive f) (r : SetOutRequest) :
    (∀ i : PathSlot, (s.setOut f.out r).pathSet.mem i.val = true → (s.paths.get i).measured = true)
    ∧ ∀ i : PathSlot, (s.setOut f.out r).pin = some i → (s.setOut f.out r).pathSet.mem i.val = true := by
  refine ⟨fun i hi => ?_, fun i => keepMember_mem⟩
  have hi : (s.setPaths f.out r).mem i.val = true := hi
  unfold State.setPaths at hi
  cases e : r.pathSet with
  | none => rw [e] at hi; exact h.1 i hi
  | some set => rw [e] at hi; exact State.livePaths_measured hi

theorem State.Keeps.applySetOut (s : State) (k : FeedSlot) (r : SetOutRequest) (sends : (s.feeds.get k).sends) : s.Keeps (s.applySetOut k r).1 := by
  have self : (s.onOut k fun o => s.setOut o r).feeds.get k = { s.feeds.get k with out := s.setOut (s.feeds.get k).out r } := Table.get_modify_self _ _ _
  unfold State.applySetOut
  dsimp only
  obtain ⟨kept, e⟩ | ⟨-, -, e⟩ := (s.onOut k fun o => s.setOut o r).dropLead_cases k <;> rw [e]
  · rw [self] at kept
    refine .onFeed s k (fun f => { f with out := s.setOut f.out r }) ⟨rfl, rfl, rfl, fun _ h => ?_, id⟩
    obtain ⟨set, pin⟩ := State.setOut_refersLive h r
    exact ⟨set, pin, fun i hi => keepMember_mem (kept.trans hi)⟩
  · rw [self]
    refine (State.Keeps.take s ⟨k, (s.feeds.get k).number, (s.setOut (s.feeds.get k).out r).lead, none, .pathGone, s.tb.time⟩ sends).trans
      ((State.Keeps.onFeed _ k (fun f => { f with out := { s.setOut f.out r with lead := none } }) ⟨rfl, rfl, rfl, fun _ h => ?_, id⟩).trans (.of_eq ?_))
    · obtain ⟨set, pin⟩ := State.setOut_refersLive h r
      exact ⟨set, pin, fun i hi => by cases hi⟩
    · have feeds : (s.onOut k fun o => s.setOut o r).feeds.modify k (fun f => { f with out := { f.out with lead := none } })
          = s.feeds.modify k (fun f => { f with out := { s.setOut f.out r with lead := none } }) :=
        Table.modify_modify s.feeds k (fun f => { f with out := s.setOut f.out r }) fun f => { f with out := { f.out with lead := none } }
      rw [feeds]
      rfl

theorem State.Keeps.applySetIn (s : State) (k : FeedSlot) (mask : FlagSet 4) : s.Keeps (s.applySetIn k mask).1 :=
  .onFeed s k (fun f => { f with inb := { f.inb with mask := mask } }) ⟨rfl, rfl, rfl, fun _ h => h, id⟩

theorem State.Keeps.feedSet (s : State) (body : List Byte) : s.Keeps (s.feedSet body).1 := by
  unfold State.feedSet
  split
  · exact .refl s
  · exact .parsed _ fun x => .checkDirection x.1 .outbound fun opened direction => .applySetOut s x.1 x.2 ⟨opened, direction⟩
  · exact .parsed _ fun x => .checkDirection x.1 .inbound fun _ _ => .applySetIn s x.1 x.2

/-- A feed closed leaves the pending set with its slot (R81). -/
theorem State.Keeps.closeFeed (s : State) (k : FeedSlot) : s.Keeps (s.closeFeed k) := by
  have self : (s.closeFeed k).feeds.get k = .closed := Table.get_modify_self _ _ _
  have other {m : FeedSlot} (ne : m ≠ k) : (s.closeFeed k).feeds.get m = s.feeds.get m := Table.get_modify_ne _ ne _
  have queued (m : FeedSlot) : (s.closeFeed k).nu.queued.mem m.val = (s.nu.queued.mem m.val && !decide (k = m)) := FlagSet.mem_erase_fin _ _ _
  have opened {m : FeedSlot} (h : ((s.closeFeed k).feeds.get m).opened = true) : m ≠ k := by
    rintro rfl
    rw [self] at h
    cases h
  refine ⟨⟨fun h => h, fun h => h, fun h => h, ?_, ?_, ?_⟩, rfl⟩
  · rintro ⟨numbers, refs⟩
    refine ⟨fun a b ab ha hb => ?_, fun m hm => ?_⟩
    · have ak := opened ha
      have bk := opened hb
      rw [other ak] at ha ⊢
      rw [other bk] at hb ⊢
      exact numbers a b ab ha hb
    · have ne := opened hm.1
      rw [other ne] at hm ⊢
      exact refs m hm
  · rintro ⟨empty, latched, named⟩
    refine ⟨fun h m => ?_, fun n hn => ?_, fun m hm => ?_⟩
    · rw [queued, empty h m, Bool.false_and]
    · rw [queued, latched n hn, Bool.false_and]
    · rw [queued, Bool.and_eq_true, Bool.not_eq_true', decide_eq_false_iff_not] at hm
      rw [other fun e => hm.2 e.symm]
      exact named m hm.1
  · rintro ⟨⟨onLines, onPorts, onFeeds⟩, values⟩
    refine ⟨⟨onLines, onPorts, fun m => ?_⟩, values⟩
    by_cases mk : m = k
    · rw [mk, self]; exact Nat.zero_le 3
    · rw [other mk]; exact onFeeds m

theorem State.Keeps.feedClose (s : State) (body : List Byte) : s.Keeps (s.feedClose body).1 :=
  .ofLength 1 body (.parsed _ fun k => .checkFeed k fun _ => .closeFeed s k)

theorem State.Keeps.feedRead (s : State) (body : List Byte) : s.Keeps (s.feedRead body).1 :=
  .ofLength 2 body (.parsed _ fun k => by
    dsimp only
    split
    · exact .onFeed s k Feed.zeroCounters ⟨rfl, rfl, rfl, fun _ h => h, id⟩
    · exact .refl s)

theorem State.Keeps.feedFind (s : State) (body : List Byte) : s.Keeps (s.feedFind body).1 :=
  .ofLength 3 body (.parsed _ fun d => .parsed _ fun n => by unfold State.lookFeed; split <;> exact .refl s)

theorem State.Keeps.feedScan (s : State) (body : List Byte) : s.Keeps (s.feedScan body).1 :=
  .ofLength 1 body (by unfold State.scanFrom; split <;> exact .of_parts)

theorem State.Keeps.rankRead (s : State) (body : List Byte) : s.Keeps (s.rankRead body).1 :=
  .ofLength 2 body (.parsed _ fun k => .checkFeed k fun _ => by split <;> exact .refl s)

/-! ### The system and line commands -/

theorem State.Keeps.seed (s : State) (body : List Byte) : s.Keeps (s.seed body).1 :=
  .ofLength 2 body (.of_su s (fun u => { u with jitter := seedLoaded (BitVec.ofNat 16 (field body 0 2)) }) fun h => h)

theorem State.Keeps.classSet (s : State) (body : List Byte) : s.Keeps (s.classSet body).1 := .ofLength 9 body (.parsed _ fun _ => .of_parts)

theorem State.Keeps.writeSettings (s : State) (r : SettingsRequest) : s.Keeps (s.writeSettings r).1 := .of_parts (settings := r.kept_inRange)

theorem State.Keeps.setLine (s : State) (r : LineSetRequest) : s.Keeps (s.setLine r).1 := by
  unfold State.setLine
  dsimp only
  have settings : s.Keeps (s.onLine r.line (·.withSettings r)) := .onLine s r.line _ ⟨rfl, id, id, fun h => by
    unfold LinePort.withSettings
    dsimp only
    split
    · exact Nat.zero_le 8
    · exact h⟩
  split
  · exact settings.trans ((State.Keeps.serve _).trans (.boundary _ _))
  · exact settings

theorem State.Keeps.lineRead (s : State) (body : List Byte) : s.Keeps (s.lineRead body).1 :=
  .ofLength 2 body (.parsed _ fun name => by
    unfold State.readLine
    cases name with
    | line l => dsimp only; split; exacts [.countLine s l _, .refl s]
    | port p => dsimp only; split; exacts [.countPort s p _, .refl s])

/-! ### The time commands, which move the time base -/

theorem State.Preserves.request (s : State) (code : Byte) (body : List Byte) {run : State → State × Reply} (h : ∀ u : State, u.Preserves (run u).1) :
    s.Preserves (s.request code body run) := by
  unfold State.request
  split
  · exact (State.Keeps.taken s body).toPreserves.trans ((h _).trans (State.Keeps.running _ _ rfl).toPreserves)
  · exact (State.Keeps.onCmp _ _ rfl).toPreserves

theorem State.Preserves.ofLength {s : State} {act : State × Reply} (n : Nat) (body : List Byte) (h : s.Preserves act.1) : s.Preserves (s.ofLength n body act).1 := by
  obtain ⟨-, e⟩ | ⟨-, e⟩ := s.ofLength_cases n body act <;> rw [e]
  · exact h
  · exact .refl s

theorem State.Preserves.unlessPending {s : State} {act : State × Reply} (h : s.Preserves act.1) : s.Preserves (s.unlessPending act).1 := by
  unfold State.unlessPending
  split
  · exact .refl s
  · exact h

theorem State.Preserves.setTime (s : State) (v : Stamp) (mode : SetMode) : s.Preserves (s.setTime v mode).1 := by
  cases mode with
  | now => exact .timeJump s _ rfl
  | atPps => exact .onTb s (·.setAtPps v s.clock) fun h => .endSlew (u := { s.tb with pendingSet := _ }) h rfl

theorem State.Preserves.timeSet (s : State) (body : List Byte) : s.Preserves (s.timeSet body).1 := by
  refine .ofLength 9 body ?_
  obtain ⟨mode, -, e⟩ | ⟨-, e⟩ := s.parsed_cases (setModeOf (byteAt body 0)) _ <;> rw [e]
  · exact .setTime s _ mode
  · exact .refl s

theorem State.Preserves.timeStep (s : State) (body : List Byte) : s.Preserves (s.timeStep body).1 := .ofLength 4 body (.unlessPending (.timeJump s _ rfl))

theorem State.Preserves.timeSlew (s : State) (body : List Byte) : s.Preserves (s.timeSlew body).1 :=
  .ofLength 4 body (.unlessPending (.onTb s (fun t => { t with slew := clampSlew (signed32 (field body 0 4)), slewTicks := 0 }) fun h => by
    have bounds := clampInt_mem (lo := -1000000) (hi := 1000000) (by decide) (signed32 (field body 0 4))
    exact .slew h rfl bounds.1 bounds.2 rfl))

theorem keptStep_inRange (v : Nat) : Config.stepLow ≤ BitVec.ofNat 40 (keptStep v) ∧ BitVec.ofNat 40 (keptStep v) ≤ Config.stepHigh := by
  obtain ⟨low, high⟩ := clampNat_mem (lo := Config.stepLow.toNat) (hi := Config.stepHigh.toNat) (by decide) v
  have small : keptStep v < 2 ^ 40 := Nat.lt_of_le_of_lt high Config.stepHigh.isLt
  rw [BitVec.le_def, BitVec.le_def, BitVec.toNat_ofNat, Nat.mod_eq_of_lt small]
  exact ⟨low, high⟩

theorem State.Preserves.timeRate (s : State) (body : List Byte) : s.Preserves (s.timeRate body).1 :=
  .ofLength 5 body (.onTb s (fun t => { t with step := BitVec.ofNat 40 (keptStep (field body 0 5)) }) fun h => ⟨(keptStep_inRange _).1, (keptStep_inRange _).2, h.2.2⟩)

/-! ### The event and notice commands -/

theorem State.Keeps.eventClear (s : State) (body : List Byte) : s.Keeps (s.eventClear body).1 :=
  .ofLength 3 body (.parsed _ fun kinds => .onNu s (·.clearKinds kinds) rfl rfl)

theorem State.Keeps.eventMask (s : State) (body : List Byte) : s.Keeps (s.eventMask body).1 :=
  .ofLength 3 body (.parsed _ fun mask => .onNu s (fun n => { n with mask := mask }) rfl rfl)

/-- NOTICE-CLEAR's effect (R160). -/
theorem State.clearNotice_cases (s : State) :
    (s.nu.latch = none ∧ s.clearNotice = s)
    ∨ (∃ n, s.nu.latch = some n ∧ s.nu.lowestQueued = none ∧ s.clearNotice = { s with nu := { s.nu with latch := none } })
    ∨ ∃ n f, s.nu.latch = some n ∧ s.nu.lowestQueued = some f ∧ s.clearNotice = { s with nu := { s.nu with
        queued := s.nu.queued.erase f.val
        latch := some ⟨f, (s.feeds.get f).number, none, (s.feeds.get f).out.lead, .deferred, s.tb.time⟩ } } := by
  unfold State.clearNotice
  cases hl : s.nu.latch with
  | none => exact .inl ⟨rfl, rfl⟩
  | some n =>
    cases hq : s.nu.lowestQueued with
    | none => exact .inr (.inl ⟨n, rfl, rfl, rfl⟩)
    | some f => exact .inr (.inr ⟨n, f, rfl, rfl, rfl⟩)

theorem NoticeUnit.not_queued_of_lowest {n : NoticeUnit} (h : n.lowestQueued = none) (k : FeedSlot) : n.queued.mem k.val = false := by
  simpa using List.find?_eq_none.1 h k (List.mem_finRange k)

theorem State.Keeps.clearNotice (s : State) : s.Keeps s.clearNotice := by
  obtain ⟨-, e⟩ | ⟨n, -, none, e⟩ | ⟨n, f, -, -, e⟩ := s.clearNotice_cases <;> rw [e]
  · exact .refl s
  · refine ⟨⟨id, id, id, id, ?_, id⟩, rfl⟩
    rintro ⟨-, -, named⟩
    exact ⟨fun _ => NoticeUnit.not_queued_of_lowest none, fun _ h => (by cases h), named⟩
  · refine ⟨⟨id, id, id, id, ?_, id⟩, rfl⟩
    rintro ⟨-, -, named⟩
    refine ⟨fun h => (by cases h), ?_, fun k hk => ?_⟩
    · rintro m ⟨⟩
      simp
    · dsimp only at hk
      rw [FlagSet.mem_erase_fin, Bool.and_eq_true] at hk
      exact named k hk.1

theorem State.Keeps.noticeClear (s : State) (body : List Byte) : s.Keeps (s.noticeClear body).1 := .ofLength 0 body (.clearNotice s)

/-! ### The transaction of a first byte -/

/-- The codes of the requests that move the time base: TIME-SET, TIME-STEP, TIME-SLEW, TIME-RATE. -/
def timeCodes : List Byte := [0x41, 0x42, 0x43, 0x44]

/-- What a request of any code but the four of the time base runs keeps the invariants and the time base. -/
theorem State.Keeps.runCode (s : State) {code : Byte} (steady : code ∉ timeCodes) (body : List Byte) : s.Keeps (s.runCode code body).1 := by
  have named {v : Nat} (h : code.toNat = v) : code = BitVec.ofNat 8 v := by rw [← h, BitVec.ofNat_toNat, BitVec.setWidth_eq]
  unfold State.runCode
  split
  · exact .ofLength 1 body (.refl s)
  · exact .seed s body
  · exact .parsed _ (.pathAdd s)
  · exact .parsed _ fun x => .pathSet s x.1 x.2
  · exact .pathHold s body
  · exact .pathRelease s body
  · exact .pathRequalify s body
  · exact .pathRetire s body
  · exact .pathRead s body
  · exact .pathFind s body
  · exact .feedOpen s body
  · exact .feedSet s body
  · exact .feedClose s body
  · exact .feedRead s body
  · exact .feedFind s body
  · exact .feedScan s body
  · exact .rankRead s body
  · exact .classSet s body
  · exact .parsed _ (.writeSettings s)
  · exact .parsed _ (.setLine s)
  · exact .lineRead s body
  · exact .ofLength 1 body (.refl s)
  iterate 4 next h => exact absurd (by rw [named h]; decide) steady
  · exact .ofLength 1 body (.refl s)
  · exact .ofLength 1 body (.refl s)
  · exact .eventClear s body
  · exact .eventMask s body
  · exact .ofLength 1 body (.refl s)
  · exact .noticeClear s body
  · exact .refl s

/-- What a request of any code runs keeps the invariants. -/
theorem State.Preserves.runCode (s : State) (code : Byte) (body : List Byte) : s.Preserves (s.runCode code body).1 := by
  by_cases steady : code ∈ timeCodes
  · simp only [timeCodes, List.mem_cons, List.not_mem_nil, or_false] at steady
    obtain rfl | rfl | rfl | rfl := steady
    · exact .timeSet s body
    · exact .timeStep s body
    · exact .timeSlew s body
    · exact .timeRate s body
  · exact (State.Keeps.runCode s steady body).toPreserves

theorem State.Keeps.softReset (s : State) (body : List Byte) : s.Keeps (s.softReset body) := by
  unfold State.softReset
  split
  · exact .startWalk s
  · exact .request s _ body .refl

/-- A transaction is one of the two reads of the port, or SOFT-RESET, or a request that runs its code. -/
theorem State.Keeps.transaction (s : State) {first : Byte} (steady : first ∉ timeCodes) (body : List Byte) : s.Keeps (s.transaction first body) := by
  unfold State.transaction
  split
  · exact (State.Keeps.readStatus s false).trans (.foldl (fun u _ => .readStatus u true) body _)
  · split
    · exact .readResponse s _
    · split
      · exact .softReset s body
      · exact .request s first body fun u => .runCode u steady body

theorem State.Preserves.transaction (s : State) (first : Byte) (body : List Byte) : s.Preserves (s.transaction first body) := by
  by_cases steady : first ∈ timeCodes
  · have requests : ∀ c ∈ timeCodes, c ≠ 0x00 ∧ c ≠ 0x01 ∧ c ≠ 0x03 := by decide
    obtain ⟨status, response, reset⟩ := requests first steady
    rw [State.transaction, if_neg status, if_neg response, if_neg reset]
    exact .request s first body fun u => .runCode u first body
  · exact (State.Keeps.transaction s steady body).toPreserves

/-! ### Every command, and every step -/

/-- The commands that may move the time base: ticks, edges and expiries, the time requests, and hardware reset. -/
def movesTime : Instr → Bool
  | .coreTick _ | .slewCorrection | .ppsEdge | .timeSetExpiry | .hardwareReset _ => true
  | .timeSetNow _ | .timeSetAtPps _ | .timeStep _ | .timeSlew _ | .timeRate _ => true
  | .unknownCommand code _ => timeCodes.contains code
  | _ => false

/-- Every command but those of the time base keeps the invariants and the time base. -/
theorem exec_keeps {c : Instr} {s t : State} (steady : movesTime c = false) (h : exec c s = .next t) : s.Keeps t := by
  have requested {code : Byte} (ok : code ∉ timeCodes) (body : List Byte) : s.Keeps (s.request code body (State.runCode code body)) :=
    .request s code body fun u => .runCode u ok body
  cases c <;> cases h
  case readStatus further => exact .readStatus s further
  case readResponse n => exact .readResponse s n
  case softReset body => exact .softReset s body
  case endOfWalk => exact .endWalk s
  case initialisationEnd => exact .endInitialisation s
  case msTick => exact .msTick s
  case windowClose => exact .windowClose s
  case statusTimerExpiry l => exact .statusTimer s l
  case soundingDue i => exact .soundingDue s i
  case soundingLost c => exact .soundingLost s c
  case feedFrame l a bytes => exact .lineArrives s l a bytes
  case soundFrame l a bytes => exact .lineArrives s l a bytes
  case echoFrame l a bytes => exact .lineArrives s l a bytes
  case modemStatusFrame l a bytes => exact .lineArrives s l a bytes
  case badKindFrame l a bytes => exact .lineArrives s l a bytes
  case localFrame p a bytes => exact .localArrives s p a bytes
  case presentNInactive l => exact .presentGone s l
  case presentNActive l => exact .presentCome s l
  case lockGained l => exact .lockCome s l
  case lockLost l => exact .lockGone s l
  case frameCompletion l => exact .frameCompletion s l
  case localSendEnd p => exact .localSendEnd s p
  case commandCompletion => exact .completeCommand s
  case unknownCommand code body => exact .transaction s (by simpa [movesTime] using steady) body
  case coreTick | slewCorrection | ppsEdge | timeSetExpiry | hardwareReset | timeSetNow | timeSetAtPps | timeStep | timeSlew | timeRate => cases steady
  all_goals exact requested (by decide) _

/-- Every command keeps the invariants. -/
theorem exec_preserves {c : Instr} {s t : State} (h : exec c s = .next t) : s.Preserves t := by
  cases steady : movesTime c with
  | false => exact (exec_keeps steady h).toPreserves
  | true =>
    cases c
    case coreTick n => cases h; exact .tick s n
    case slewCorrection => cases h; split; exacts [.tick s 1, .refl s]
    case ppsEdge => cases h; exact .ppsEdge s
    case timeSetExpiry => cases h; exact .expireSet s
    case hardwareReset level => cases h; exact .resetPin s level
    case timeSetNow body => cases h; exact .request s _ body fun u => .timeSet u body
    case timeSetAtPps body => cases h; exact .request s _ body fun u => .timeSet u body
    case timeStep body => cases h; exact .request s _ body fun u => .timeStep u body
    case timeSlew body => cases h; exact .request s _ body fun u => .timeSlew u body
    case timeRate body => cases h; exact .request s _ body fun u => .timeRate u body
    case unknownCommand code body => cases h; exact .transaction s code body
    all_goals cases steady

/-- Every step keeps every invariant: the command at the front runs on the queue's rest, which no invariant speaks of. -/
theorem step_preserves {s t : State} (h : step s = .next t) : s.Preserves t := by
  unfold step at h
  split at h
  · cases h; exact .refl s
  · next c rest _ => exact (show s.Keeps { s with pending := rest } from .of_parts).toPreserves.trans (exec_preserves h)

/-- Settles O55: the pool's part of what every step keeps. -/
theorem everyStepKeepsThePoolWhole : Obligations.EveryStepKeepsThePoolWhole := fun _ _ whole h => (step_preserves h).pool whole

/-- Settles O56: identities and counts are kept together, for a count is that of the frames under one identity. -/
theorem everyStepKeepsQueuesCounted : Obligations.EveryStepKeepsQueuesCounted := fun _ _ unique counted h => (step_preserves h).queues ⟨unique, counted⟩

/-- Settles O57: the sounding unit's part of what every step keeps. -/
theorem everyStepKeepsSoundingsLive : Obligations.EveryStepKeepsSoundingsLive := fun _ _ live h => (step_preserves h).soundings live

/-- Settles O58: the feed table's part of what every step keeps. -/
theorem everyStepKeepsFeedsSound : Obligations.EveryStepKeepsFeedsSound := fun _ _ sound h => (step_preserves h).feeds sound

/-- Settles O59: the notice unit's part of what every step keeps. -/
theorem everyStepKeepsNoticesOrderly : Obligations.EveryStepKeepsNoticesOrderly := fun _ _ orderly h => (step_preserves h).notices orderly

/-- Settles O60: sizes and ranges are kept together, as an estimate's range rests on the settings'. -/
theorem everyStepKeepsValuesInRange : Obligations.EveryStepKeepsValuesInRange := fun _ _ lists values h => (step_preserves h).ranges ⟨lists, values⟩

/-- Settles O3: the hardware-reset values meet every invariant, whatever the engine, the pins and the queue. -/
theorem invariantsHoldAtReset : Obligations.InvariantsHoldAtReset :=
  ⟨State.hardware_pool .., State.hardware_identities _ _ _ _, State.hardware_queues .., State.hardware_soundings .., State.hardware_feeds .., State.hardware_notices ..,
    State.hardware_lists .., State.hardware_values ..⟩

end Sys2Proof.Machine
end

section
/-! The command port: the queue's front, the status byte, completion and collection, and the requests that are not taken or not of a length of the catalogue (chapter 11). -/

namespace Sys2Proof.Machine

/-! ### The queue and the reset values -/

/-- Settles O1: by the two branches of a step. -/
theorem stepRunsTheFrontCommand : Obligations.StepRunsTheFrontCommand :=
  ⟨fun _ _ _ => rfl, fun s empty => by rw [step, empty]⟩

/-- Settles O2: each unit's reset value is the one its chapter gives, read through the tables. -/
theorem resetHoldsTheResetValues : Obligations.ResetHoldsTheResetValues := by
  refine ⟨rfl, rfl, fun i => Table.get_replicate .., fun c => Table.get_replicate .., fun i => Table.get_replicate .., rfl, rfl, rfl, fun l => ?_, rfl,
    fun k => Table.get_replicate .., rfl, rfl, fun p => Table.get_replicate .., fun l => Table.get_replicate .., fun p => Table.get_replicate .., rfl, rfl,
    fun k => Table.get_replicate .., fun k => Table.get_replicate .., fun k => Table.get_replicate .., rfl, rfl, rfl, rfl⟩
  rw [show State.reset.lines.get l = .reset from Table.get_replicate ..]
  exact ⟨rfl, rfl, rfl, rfl, rfl, rfl, rfl, rfl, rfl, rfl, rfl, fun _ => rfl⟩

/-! ### The status byte (R164, R169) -/

/-- The status byte outside hardware reset, as the number its fields make (R164). -/
theorem State.statusByte_eq {s : State} (h : s.cmp.engine ≠ .held) :
    s.statusByte = BitVec.ofNat 8 (128 + 16 * s.cmp.engine.code + s.cmp.buffer.isSome.toNat * 8 + s.nu.interrupt.toNat * 4) := by
  have asserted : s.intAsserted = s.nu.interrupt := by simp [State.intAsserted, h]
  rw [State.statusByte, if_neg h, asserted]
  cases s.cmp.buffer.isSome <;> cases s.nu.interrupt <;> rfl

/-- The bits of the status byte, whatever the engine shows, the buffer holds and INT_N tells (R164). -/
theorem statusByte_bits : ∀ (code : Fin 3) (waiting asserted : Bool),
    let b := BitVec.ofNat 8 (128 + 16 * code.val + waiting.toNat * 8 + asserted.toNat * 4)
    b.getLsbD 7 = true ∧ b.getLsbD 6 = false ∧ b.getLsbD 5 = decide (code = 2) ∧ b.getLsbD 4 = decide (code = 1)
      ∧ b.getLsbD 3 = waiting ∧ b.getLsbD 2 = asserted ∧ b.getLsbD 1 = false ∧ b.getLsbD 0 = false := by decide

theorem Engine.code_lt (e : Engine) : e.code < 3 := by cases e <;> simp [Engine.code]

/-- Settles O4: each byte of READ-STATUS is the status byte; its bits are those of the number that engine code, buffer and INT_N make. -/
theorem readStatusShiftsTheStatusByte : Obligations.ReadStatusShiftsTheStatusByte := by
  refine ⟨fun s => rfl, fun s openBefore => ?_, fun s held => if_pos held, fun s running => ?_⟩
  · change Host.Outcome.next (s.readStatus true) = _
    rw [State.readStatus]
    simp only [State.onCmp, openBefore, Bool.and_self, if_true]
  · rw [State.statusByte_eq running]
    obtain ⟨b7, b6, b5, b4, b3, b2, b1, b0⟩ := statusByte_bits ⟨s.cmp.engine.code, s.cmp.engine.code_lt⟩ s.cmp.buffer.isSome s.nu.interrupt
    refine ⟨b7, b6, fun idle => ?_, fun r working => ?_, fun resetting => ?_, b3, b2, b1, b0⟩
    · rw [b5, b4]; simp [idle, Engine.code]
    · rw [b5, b4]; simp [working, Engine.code]
    · rw [b5, b4]
      obtain walking | initialising := resetting
      · simp [walking, Engine.code]
      · simp [initialising, Engine.code]

/-! ### Completion and READ-RESPONSE (R167, R168) -/

/-- The bytes clocked out are the first ones, with 00h beyond their end (R168). -/
theorem clockedOut_eq (n : Nat) (bytes : List Byte) : clockedOut n bytes = (bytes ++ List.replicate n 0).take n := by
  rw [clockedOut, List.take_append, List.take_replicate]
  congr 2
  omega

/-- READ-RESPONSE outside hardware reset shifts out the port's response and empties the buffer (R168). -/
theorem State.readResponse_eq {s : State} (h : s.cmp.engine ≠ .held) (n : Nat) :
    s.readResponse n = { s with cmp := { s.cmp with miso := s.statusByte :: (s.cmp.response.bytes ++ List.replicate n 0).take n, buffer := none, statusOpen := false } } := by
  rw [State.readResponse, if_neg h, ← clockedOut_eq]
  rfl

/-- Settles O5: the completion, and READ-RESPONSE by what the buffer holds. -/
theorem responseIsWrittenAndCollected : Obligations.ResponseIsWrittenAndCollected := by
  refine ⟨fun s r working => congrArg Host.Outcome.next (State.completeCommand_working working), fun s r n running waiting => ?_, fun s n running empty => ?_⟩
  · refine congrArg Host.Outcome.next ((State.readResponse_eq running n).trans ?_)
    rw [CommandPort.response, waiting]
    rfl
  · refine congrArg Host.Outcome.next ((State.readResponse_eq running n).trans ?_)
    have response : s.cmp.response.bytes = [0x01, 0x08, 0x00, 0x00] := by rw [CommandPort.response, empty]; rfl
    rw [response]
    simp [empty, ← List.map_eq_flatMap]

/-! ### Requests (R165, R166) -/

/-- A request's command is the transaction of its code, which is none of the two that read the port (R163). -/
theorem exec_of_asRequest {c : Instr} {code : Byte} {body : List Byte} (h : c.asRequest = some (code, body)) (s : State) :
    exec c s = .next (s.transaction code body) ∧ code ≠ 0x00 ∧ code ≠ 0x01 := by
  cases c
  case unknownCommand first bytes =>
    by_cases port : first = 0x00 ∨ first = 0x01
    · exact absurd ((if_pos port).symm.trans h) (by simp)
    · cases (if_neg port).symm.trans h
      exact ⟨rfl, not_or.1 port⟩
  all_goals cases h
  all_goals exact ⟨rfl, by decide, by decide⟩

/-- A request's transaction is SOFT-RESET, or a request of its code (R163). -/
theorem State.transaction_cases (s : State) {code : Byte} (body : List Byte) (status : code ≠ 0x00) (response : code ≠ 0x01) :
    (code = 0x03 ∧ s.transaction code body = s.softReset body) ∨ (code ≠ 0x03 ∧ s.transaction code body = s.request code body (State.runCode code body)) := by
  rw [State.transaction, if_neg status, if_neg response]
  by_cases h : code = 0x03
  · exact .inl ⟨h, if_pos h⟩
  · exact .inr ⟨h, if_neg h⟩

/-- SOFT-RESET at a busy engine, or of another length, is a request that runs nothing (R165, R175). -/
theorem State.softReset_of_not {s : State} {body : List Byte} (h : ¬ (s.cmp.engine = .idle ∧ body = [])) :
    s.softReset body = s.request 0x03 body (·.refusing .malformed) := by
  refine if_neg fun e => h ?_
  simpa using e

/-- Settles O6: whatever the code, a request at a busy engine runs nothing. -/
theorem requestIsNotTakenUnlessIdle : Obligations.RequestIsNotTakenUnlessIdle := by
  intro s c code body request busy
  obtain ⟨run, status, response⟩ := exec_of_asRequest request s
  rw [run]
  obtain ⟨rfl, e⟩ | ⟨-, e⟩ := s.transaction_cases body status response <;> rw [e]
  · rw [State.softReset_of_not fun h => busy h.1, State.request_of_busy busy]
  · rw [State.request_of_busy busy]

section Lengths
variable (s : State) {body : List Byte}

/-- A request whose form wants another length is MALFORMED (R166). -/
theorem State.parsed_of_none {α : Type} {form : Option α} (h : form = none) (act : α → State × Reply) : s.parsed form act = s.refusing .malformed := by
  rw [h, State.parsed_none]

theorem parsePathAdd_of_length (h : body.length ≠ 21) : parsePathAdd body = none := if_pos h
theorem parsePathSet_of_length (h : body.length ≠ 18) : parsePathSet body = none := if_pos h
theorem parseOpenOut_of_length (h : body.length ≠ 20) : parseOpenOut body = none := if_pos h
theorem parseOpenIn_of_length (h : body.length ≠ 11) : parseOpenIn body = none := if_pos h
theorem parseSetOut_of_length (h : body.length ≠ 13) : parseSetOut body = none := if_pos h
theorem parseSetIn_of_length (h : body.length ≠ 3) : parseSetIn body = none := if_pos h
theorem parseSystemSet_of_length (h : body.length ≠ 26) : parseSystemSet body = none := if_pos h
theorem parseLineSet_of_length (h : body.length ≠ 5) : parseLineSet body = none := if_pos h

/-- FEED-OPEN of neither length is MALFORMED, whatever direction it names (R166). -/
theorem State.feedOpen_of_length (outbound : body.length ≠ 20) (inbound : body.length ≠ 11) : s.feedOpen body = s.refusing .malformed := by
  unfold State.feedOpen
  split
  · rfl
  · exact s.parsed_of_none (parseOpenOut_of_length outbound) _
  · exact s.parsed_of_none (parseOpenIn_of_length inbound) _

/-- FEED-SET of neither length is MALFORMED, whatever direction it names (R166). -/
theorem State.feedSet_of_length (outbound : body.length ≠ 13) (inbound : body.length ≠ 3) : s.feedSet body = s.refusing .malformed := by
  unfold State.feedSet
  split
  · rfl
  · exact s.parsed_of_none (parseSetOut_of_length outbound) _
  · exact s.parsed_of_none (parseSetIn_of_length inbound) _

/-- A run of a length that the catalogue does not give its code answers MALFORMED, and so does the run of a code that names no command (R166). -/
theorem State.runCode_of_length {code : Byte} (h : body.length + 1 ∉ requestLengths code) : s.runCode code body = s.refusing .malformed := by
  unfold State.runCode
  unfold requestLengths at h
  split
  case h_33 => rfl
  all_goals rename_i hc; rw [hc] at h; simp only [List.mem_cons, List.not_mem_nil, or_false, not_or, Nat.reduceEqDiff] at h
  · exact s.ofLength_ne (by omega) _
  · exact s.ofLength_ne (by omega) _
  · exact s.parsed_of_none (parsePathAdd_of_length (by omega)) _
  · exact s.parsed_of_none (parsePathSet_of_length (by omega)) _
  iterate 4 exact s.ofLength_ne (n := 1) (by omega) _
  iterate 2 exact s.ofLength_ne (by omega) _
  · exact s.feedOpen_of_length (by omega) (by omega)
  · exact s.feedSet_of_length (by omega) (by omega)
  iterate 6 exact s.ofLength_ne (by omega) _
  · exact s.parsed_of_none (parseSystemSet_of_length (by omega)) _
  · exact s.parsed_of_none (parseLineSet_of_length (by omega)) _
  all_goals exact s.ofLength_ne (by omega) _

end Lengths

/-- Settles O7: SOFT-RESET of more than its one byte, and every other code by its run. -/
theorem requestOfAnotherLengthIsMalformed : Obligations.RequestOfAnotherLengthIsMalformed := by
  intro s c code body request idle length
  obtain ⟨run, status, response⟩ := exec_of_asRequest request s
  rw [run]
  obtain ⟨rfl, e⟩ | ⟨-, e⟩ := s.transaction_cases body status response <;> rw [e]
  · rw [State.softReset_of_not fun h => length (by rw [h.2]; decide)]
    exact congrArg _ (State.request_refusing idle rfl)
  · exact congrArg _ (State.request_refusing idle ((s.taken body).runCode_of_length length))

end Sys2Proof.Machine
end

section
/-! Fields of a request's bytes read back, and the requests of few fields: reads that change nothing, events and notices, FEED-CLOSE, CLASS-SET (R81, R87, R134, R156 to R160). -/

namespace Sys2Proof.Machine

/-! ### Bytes and fields -/

@[simp] theorem toNat_byteOf_fin {n : Nat} (i : Fin n) (h : n ≤ 256 := by decide) : (byteOf i.val).toNat = i.val := by
  rw [byteOf, BitVec.toNat_ofNat, Nat.mod_eq_of_lt (by omega)]

theorem beBytes_one (v : Nat) : beBytes 1 v = [byteOf v] := rfl

theorem optionalSlotByte_eq (p : Option PathSlot) : optionalSlotByte p = slotByteOf p := by cases p <;> rfl

/-- A word comes back from its bytes, whatever follows them (R171). -/
theorem field_word {w : Nat} (n : Nat) (v : BitVec w) (rest : List Byte) (h : 2 ^ w ≤ 256 ^ n) : field (beBytes n v.toNat ++ rest) 0 n = v.toNat := by
  rw [field_append_left _ _ 0 n (by simp), field_whole _ n (length_beBytes n _), beValue_beBytes, Nat.mod_eq_of_lt (v.isLt.trans_le h)]

/-- A word comes back from its bytes alone (R171). -/
theorem field_word_alone {w : Nat} (n : Nat) (v : BitVec w) (h : 2 ^ w ≤ 256 ^ n) : field (beBytes n v.toNat) 0 n = v.toNat := by
  simpa using field_word n v [] h

/-- A field behind a word (R171). -/
theorem field_behind (m v : Nat) (rest : List Byte) (i n : Nat) (h : m ≤ i) : field (beBytes m v ++ rest) i n = field rest (i - m) n := by
  rw [field_append_right _ _ i n (by simpa using h), length_beBytes]

theorem byteAt_zero (b : Byte) (rest : List Byte) : byteAt (b :: rest) 0 = b.toNat := field_cons_zero_one b rest

theorem byteAt_succ (b : Byte) (rest : List Byte) (i : Nat) : byteAt (b :: rest) (i + 1) = byteAt rest i := field_cons b rest i 1

/-- A slot byte spells its slot. -/
theorem indexOf_byteOf {n : Nat} (i : Fin n) (rest : List Byte) (h : n ≤ 256 := by decide) : indexOf n (byteAt (byteOf i.val :: rest) 0) = some i := by
  rw [byteAt_zero, toNat_byteOf_fin i h, indexOf_fin]

/-- A slot byte at or above the number of slots spells none. -/
theorem indexOf_byte_ge {n : Nat} {b : Byte} (rest : List Byte) (h : n ≤ b.toNat) : indexOf n (byteAt (b :: rest) 0) = none := by
  rw [byteAt_zero, indexOf_ge h]

/-- A record's options byte names the clear-counters option by its bit 0 (R171). -/
theorem clearOption_byteAt (slot options : Byte) : clearOption (byteAt [slot, options] 1) = options.getLsbD 0 := by
  rw [clearOption, byteAt_succ, byteAt_zero, BitVec.testBit_toNat]

/-! ### Reads that change nothing (R134, R140, R160) -/

/-- A latch is answered as its state, and its record behind it when FULL (R160). -/
theorem latchBytes_eq (x : Option Notice) : latchBytes x = match x with
    | none => [0]
    | some n => [1, byteOf n.feed.val] ++ beBytes 2 n.number.toNat ++ [slotByteOf n.old, slotByteOf n.new, n.reason.byte] ++ beBytes 8 n.time.toNat := by
  cases x with
  | none => rfl
  | some n => simp only [latchBytes, optionalSlotByte_eq]; rfl

/-- Settles O24: each read answers what stands, and changes the port alone. -/
theorem readsThatChangeNothing : Obligations.ReadsThatChangeNothing := by
  intro s options idle
  refine ⟨?_, ?_, ?_⟩
  · refine (congrArg Host.Outcome.next (State.request_eq (t := s) (r := done s.timeBytes) idle (State.ofLength_self _ [options] _))).trans ?_
    rw [State.timeBytes]
    cases s.tb.pendingSet <;> rfl
  · exact congrArg Host.Outcome.next (State.request_eq (t := s) (r := done (beBytes 8 s.tb.ppsStamp.toNat ++ [s.tb.ppsCount])) idle (State.ofLength_self _ [options] _))
  · refine (congrArg Host.Outcome.next
      (State.request_eq (t := s) (r := done (latchBytes s.nu.latch ++ beBytes 8 s.nu.queued.toNat)) idle (State.ofLength_self _ [options] _))).trans ?_
    rw [latchBytes_eq]
    cases s.nu.latch <;> rfl

/-! ### EVENT-CLEAR, EVENT-MASK and INT_N (R157, R158) -/

/-- A set of kinds comes back from its three bytes. -/
theorem kindSetOf_word {n : Nat} (kinds : FlagSet n) (h : 2 ^ n ≤ 256 ^ 3) : kindSetOf n (field (beBytes 3 kinds.toNat) 0 3) = some kinds := by
  rw [field_word_alone 3 kinds h, kindSetOf, if_pos kinds.isLt, BitVec.ofNat_toNat, BitVec.setWidth_eq]

/-- Three bytes with a bit beyond the kinds spell no set. -/
theorem kindSetOf_beyond {n : Nat} {v : BitVec 24} (h : 2 ^ n ≤ v.toNat) : kindSetOf n (field (beBytes 3 v.toNat) 0 3) = none := by
  rw [field_word_alone 3 v (by decide), kindSetOf, if_neg (Nat.not_lt.2 h)]

/-- The bytes of the named kinds, one after another in rising order (R157). -/
theorem flatMap_filter {α β : Type} (p : α → Bool) (f : α → List β) (l : List α) : (l.filter p).flatMap f = l.flatMap fun a => if p a then f a else [] := by
  induction l with
  | nil => rfl
  | cons a l ih =>
    cases h : p a
    · rw [List.filter_cons_of_neg (by simp [h]), List.flatMap_cons, ih, h]; rfl
    · rw [List.filter_cons_of_pos h, List.flatMap_cons, List.flatMap_cons, ih, h]; rfl

theorem NoticeUnit.clearedBytes_eq (n : NoticeUnit) (kinds : FlagSet 17) :
    n.clearedBytes kinds = (List.range 17).flatMap fun k => if kinds.mem k then (if n.flags.mem k then 1 else 0) :: memberSetBytes n k else [] := by
  rw [NoticeUnit.clearedBytes, flatMap_filter]
  simp only [NoticeUnit.memberBytes_eq_memberSetBytes]
  rfl

/-- The flags that EVENT-CLEAR leaves (R157). -/
theorem NoticeUnit.clearKinds_flags (n : NoticeUnit) (kinds : FlagSet 17) (k : Fin 17) :
    (n.clearKinds kinds).flags.mem k.val = (n.flags.mem k.val && !kinds.mem k.val) := by
  simp [NoticeUnit.clearKinds, FlagSet.mem]

/-- Two sets share a member exactly when their intersection is not empty. -/
theorem FlagSet.and_ne_zero {n : Nat} (a b : FlagSet n) : a &&& b ≠ 0 ↔ ∃ k : Fin n, a.mem k.val = true ∧ b.mem k.val = true := by
  constructor
  · intro h
    by_contra none
    refine h (FlagSet.ext_mem fun k => ?_)
    have apart : ¬ (a.mem k.val = true ∧ b.mem k.val = true) := fun both => none ⟨k, both⟩
    rw [FlagSet.mem_zero]
    simpa [FlagSet.mem] using apart
  · rintro ⟨k, ha, hb⟩ e
    have both : (a &&& b).mem k.val = true := by
      rw [FlagSet.mem, BitVec.getLsbD_and, Bool.and_eq_true]
      exact ⟨ha, hb⟩
    rw [e, FlagSet.mem_zero] at both
    cases both

/-- The INT_N condition, kind by kind (R158). -/
theorem NoticeUnit.interrupt_iff (n : NoticeUnit) :
    n.interrupt = true ↔ (∃ k : Fin 17, n.mask.mem k.val = true ∧ n.flags.mem k.val = true) ∨ (n.mask.mem 17 = true ∧ n.latch ≠ none) := by
  have enabled (k : Fin 17) : FlagSet.mem (n := 17) (n.mask.setWidth 17) k.val = n.mask.mem k.val := by
    simp [FlagSet.mem]
  rw [NoticeUnit.interrupt, Bool.or_eq_true, decide_eq_true_eq, FlagSet.and_ne_zero, Bool.and_eq_true, Option.isSome_iff_ne_none]
  simp only [enabled]

/-- Settles O31: the sets are read back from their bytes, and INT_N is decided kind by kind. -/
theorem eventClearAndMask : Obligations.EventClearAndMask := by
  refine ⟨fun s kinds idle beyond => ?_, fun s kinds idle => ?_, fun s mask idle => ?_, fun s enables idle beyond => ?_, fun s => ?_⟩
  · refine congrArg Host.Outcome.next (State.request_refusing idle ?_)
    rw [State.eventClear, kindSetOf_beyond beyond]
    exact State.ofLength_self _ (beBytes 3 kinds.toNat) _
  · refine ⟨s.nu.clearKinds kinds, ?_, s.nu.clearKinds_flags kinds, fun k => Table.get_mapIdx .., fun k => Table.get_mapIdx .., fun k => Table.get_mapIdx .., rfl, rfl, rfl⟩
    rw [← NoticeUnit.clearedBytes_eq]
    refine congrArg Host.Outcome.next (State.request_eq (t := s.onNu (·.clearKinds kinds)) (r := done (s.nu.clearedBytes kinds)) idle ?_)
    rw [State.eventClear, kindSetOf_word kinds (by decide)]
    exact State.ofLength_self _ (beBytes 3 kinds.toNat) _
  · refine congrArg Host.Outcome.next (State.request_eq (t := s.onNu fun n => { n with mask := mask }) (r := done []) idle ?_)
    rw [State.eventMask, kindSetOf_word mask (by decide)]
    exact State.ofLength_self _ (beBytes 3 mask.toNat) _
  · refine congrArg Host.Outcome.next (State.request_refusing idle ?_)
    rw [State.eventMask, kindSetOf_beyond beyond]
    exact State.ofLength_self _ (beBytes 3 enables.toNat) _
  · rw [State.intAsserted, Bool.and_eq_true, decide_eq_true_eq, NoticeUnit.interrupt_iff]

/-! ### Route notices (R159, R160) -/

theorem NoticeUnit.lowestQueued_eq_some {n : NoticeUnit} {f : FeedSlot} (queued : n.queued.mem f.val = true) (least : ∀ k : FeedSlot, k < f → n.queued.mem k.val = false) :
    n.lowestQueued = some f := by
  rw [NoticeUnit.lowestQueued, List.find?_eq_some_iff_getElem]
  refine ⟨queued, f.val, by simp, by simp, fun j hj => ?_⟩
  simpa using least ⟨j, by omega⟩ (Fin.lt_def.2 hj)

theorem NoticeUnit.lowestQueued_eq_none {n : NoticeUnit} (h : ∀ k : FeedSlot, n.queued.mem k.val = false) : n.lowestQueued = none :=
  List.find?_eq_none.2 fun k _ => by simp [h k]

/-- NOTICE-CLEAR from an IDLE engine answers the latch before and after (R160). -/
theorem exec_noticeClear_of_idle {s t : State} (idle : s.cmp.engine = .idle) (cleared : (s.taken []).clearNotice = { t with cmp := (s.taken []).cmp }) :
    exec (.noticeClear []) s = .next { t with cmp := s.answered [] 0x54 .done (latchBytes s.nu.latch ++ latchBytes t.nu.latch) } := by
  refine congrArg Host.Outcome.next (State.request_eq (t := t) (r := done (latchBytes s.nu.latch ++ latchBytes t.nu.latch)) idle ?_)
  rw [State.noticeClear, cleared]
  exact State.ofLength_self _ [] _

/-- Settles O32: NOTICE-CLEAR by what latch and pending set hold, and the taking of a notice by the latch. -/
theorem noticesAreTakenAndCleared : Obligations.NoticesAreTakenAndCleared := by
  refine ⟨fun s idle => ⟨fun empty => ?_, fun n full => ⟨fun unqueued => ?_, fun f queued least => ?_⟩⟩, fun n x => ⟨fun empty => ?_, fun y full => ⟨?_, ?_, ?_⟩⟩⟩
  · obtain ⟨-, e⟩ | ⟨m, h, -⟩ | ⟨m, f, h, -⟩ := (s.taken []).clearNotice_cases
    · rw [exec_noticeClear_of_idle (t := s) idle e, empty]; rfl
    · cases empty.symm.trans h
    · cases empty.symm.trans h
  · have none := NoticeUnit.lowestQueued_eq_none unqueued
    obtain ⟨h, -⟩ | ⟨m, -, -, e⟩ | ⟨m, f, -, h, -⟩ := (s.taken []).clearNotice_cases
    · cases full.symm.trans h
    · rw [exec_noticeClear_of_idle (t := s.onNu fun n => { n with latch := Option.none }) idle e, full, latchBytes_eq]; rfl
    · cases none.symm.trans h
  · have lowest := NoticeUnit.lowestQueued_eq_some queued least
    refine ⟨s.nu.queued.erase f.val, fun k => ?_, ?_⟩
    · rw [FlagSet.mem_erase_fin, Bool.and_eq_true, Bool.not_eq_true', decide_eq_false_iff_not]
      exact and_congr_right' ⟨fun h => Ne.symm h, fun h => Ne.symm h⟩
    · obtain ⟨h, -⟩ | ⟨m, -, h, -⟩ | ⟨m, g, -, h, e⟩ := (s.taken []).clearNotice_cases
      · cases full.symm.trans h
      · cases lowest.symm.trans h
      · cases lowest.symm.trans h
        rw [exec_noticeClear_of_idle (t := s.onNu fun n => { n with
          queued := n.queued.erase f.val
          latch := some ⟨f, (s.feeds.get f).number, none, (s.feeds.get f).out.lead, .deferred, s.tb.time⟩ }) idle e, full, latchBytes_eq, latchBytes_eq]
        rfl
  · rw [NoticeUnit.take, empty]
  · intro hf hn
    rw [NoticeUnit.take, full]
    simp only [hf, hn, if_true]
  · intro hf hn
    rw [NoticeUnit.take, full]
    simp only [hf, hn, if_true, if_false]
  · intro hf
    have e : n.take x = { n with queued := n.queued.insert x.feed.val } := by
      rw [NoticeUnit.take, full]
      simp only [hf, if_false]
    refine ⟨by rw [e], fun k => ?_⟩
    rw [e, FlagSet.mem_insert_fin, Bool.or_eq_true, decide_eq_true_eq]
    exact or_congr_right ⟨Eq.symm, Eq.symm⟩

/-! ### FEED-CLOSE (R81) -/

/-- Settles O17: the slot's record and its place in the pending set are all that FEED-CLOSE writes. -/
theorem feedCloseClosesTheSlot : Obligations.FeedCloseClosesTheSlot := by
  intro s k idle opened
  refine ⟨{ s.closeFeed k with cmp := s.answered [byteOf k.val] 0x22 .done [] }, ?_, rfl, fun m => ?_⟩
  · refine congrArg Host.Outcome.next (State.request_eq (t := s.closeFeed k) (r := done []) idle ?_)
    rw [State.feedClose, indexOf_byteOf k []]
    refine (State.ofLength_self _ [byteOf k.val] _).trans ?_
    obtain ⟨-, e⟩ | ⟨h, -⟩ := (s.taken [byteOf k.val]).checkFeed_cases k ((s.taken [byteOf k.val]).closeFeed k, done [])
    · exact e
    · exact absurd (opened.symm.trans h) (by simp)
  · change (s.nu.queued.erase k.val).mem m.val = true ↔ _
    rw [FlagSet.mem_erase_fin, Bool.and_eq_true, Bool.not_eq_true', decide_eq_false_iff_not]
    exact and_congr_right' ⟨fun h => Ne.symm h, fun h => Ne.symm h⟩

/-! ### CLASS-SET (R87) -/

/-- A class byte spells NORMAL or URGENT (11.5). -/
theorem urgencyOf_cases (b : Byte) :
    (b = 0 ∧ urgencyOf b.toNat = some .normal) ∨ (b = 1 ∧ urgencyOf b.toNat = some .urgent) ∨ (1 < b.toNat ∧ urgencyOf b.toNat = none) := by
  revert b
  decide

/-- The class map after CLASS-SET, entry by entry (R87). -/
theorem classMapAfter_mem (map kinds : FlagSet 64) (c : Urgency) (k : Fin 64) :
    (classMapAfter map kinds c).mem k.val = if kinds.mem k.val then decide (c = .urgent) else map.mem k.val := by
  unfold classMapAfter
  cases c with
  | normal =>
    have off : (map &&& ~~~ kinds).mem k.val = (map.mem k.val && !kinds.mem k.val) := by simp [FlagSet.mem]
    rw [off]
    cases kinds.mem k.val <;> simp
  | urgent =>
    rw [FlagSet.mem_or]
    cases kinds.mem k.val <;> simp

theorem exec_classSet_of_idle {s : State} (idle : s.cmp.engine = .idle) (kinds : FlagSet 64) (code : Byte) {c : Urgency} (h : urgencyOf code.toNat = some c) :
    exec (.classSet (beBytes 8 kinds.toNat ++ [code])) s = .next { s with
      cmp := s.answered (beBytes 8 kinds.toNat ++ [code]) 0x30 .done (beBytes 8 (classMapAfter s.classMap kinds c).toNat)
      classMap := classMapAfter s.classMap kinds c } := by
  have codeByte : byteAt (beBytes 8 kinds.toNat ++ [code]) 8 = code.toNat := (field_behind 8 _ [code] 8 1 le_rfl).trans (field_cons_zero_one code [])
  refine congrArg Host.Outcome.next (State.request_eq (t := { s with classMap := classMapAfter s.classMap kinds c })
    (r := done (beBytes 8 (classMapAfter s.classMap kinds c).toNat)) idle ?_)
  rw [State.classSet, codeByte, h, field_word 8 kinds [code] (by decide), BitVec.ofNat_toNat, BitVec.setWidth_eq]
  exact if_pos (by simp)

/-- Settles O21: by the class that the code byte spells. -/
theorem classSetWritesTheNamedEntries : Obligations.ClassSetWritesTheNamedEntries := by
  intro s kinds code idle
  have codeByte : byteAt (beBytes 8 kinds.toNat ++ [code]) 8 = code.toNat := (field_behind 8 _ [code] 8 1 le_rfl).trans (field_cons_zero_one code [])
  obtain ⟨rfl, e⟩ | ⟨rfl, e⟩ | ⟨beyond, e⟩ := urgencyOf_cases code
  · exact ⟨fun h => absurd h (by decide), fun _ => ⟨_, fun k => classMapAfter_mem _ _ _ k, exec_classSet_of_idle idle kinds 0 e⟩⟩
  · exact ⟨fun h => absurd h (by decide), fun _ => ⟨_, fun k => classMapAfter_mem _ _ _ k, exec_classSet_of_idle idle kinds 1 e⟩⟩
  · refine ⟨fun _ => congrArg Host.Outcome.next (State.request_refusing idle ?_), fun h => absurd h (Nat.not_le.2 beyond)⟩
    rw [State.classSet, codeByte, e]
    exact if_pos (by simp)

end Sys2Proof.Machine
end

section
/-! Resets, initialisation and what waits out the resetting (R174 to R176); the ms tick and the fade-window close (R19, R70 to R72). -/

namespace Sys2Proof.Machine

/-! ### While RESETTING (R148, R152, R174 to R176) -/

theorem FlagSet.insert_of_mem {n : Nat} {x : FlagSet n} {i : Fin n} (h : x.mem i.val = true) : x.insert i.val = x :=
  FlagSet.ext_mem fun k => by
    rw [FlagSet.mem_insert_fin]
    by_cases e : i = k
    · rw [← e, h]; rfl
    · simp [e]

theorem FlagSet.erase_of_not_mem {n : Nat} {x : FlagSet n} {i : Fin n} (h : x.mem i.val = false) : x.erase i.val = x :=
  FlagSet.ext_mem fun k => by
    rw [FlagSet.mem_erase_fin]
    by_cases e : i = k
    · rw [← e, h]; rfl
    · simp [e]

theorem State.resetting_iff {s : State} : s.resetting = true ↔ s.cmp.engine = .walking ∨ s.cmp.engine = .initialising ∨ s.cmp.engine = .held := by
  rw [State.resetting]
  cases s.cmp.engine <;> simp [Engine.resetting]

section Resetting
variable {s : State} (h : s.resetting = true)
include h

theorem State.lineArrives_resetting (l : Line) (bytes : List Byte) : s.lineArrives l .lastByte bytes = s.lineQuiet l :=
  if_pos h

theorem State.localArrives_resetting (p : Port) (bytes : List Byte) : s.localArrives p .lastByte bytes = s.portQuiet p :=
  if_pos h

theorem State.presentCome_resetting (l : RadioLine) : s.presentCome l = { s with presentPin := s.presentPin.insert l.val } := by
  unfold State.presentCome State.pinPresent
  cases pin : s.presentPin.mem l.val
  · simp [show s.cmp.engine.resetting = true from h, State.resetting]
  · rw [FlagSet.insert_of_mem pin]; rfl

theorem State.presentGone_resetting (l : RadioLine) : s.presentGone l = { s with presentPin := s.presentPin.erase l.val } := by
  unfold State.presentGone State.pinPresent
  cases pin : s.presentPin.mem l.val
  · rw [FlagSet.erase_of_not_mem pin]; rfl
  · simp [show s.cmp.engine.resetting = true from h, State.resetting]

theorem State.lockCome_resetting (l : FibreLine) : s.lockCome l = { s with lockPin := s.lockPin.insert l.val } := by
  unfold State.lockCome State.pinLocked
  cases pin : s.lockPin.mem l.val
  · simp [show s.cmp.engine.resetting = true from h, State.resetting]
  · rw [FlagSet.insert_of_mem pin]; rfl

theorem State.lockGone_resetting (l : FibreLine) : s.lockGone l = { s with lockPin := s.lockPin.erase l.val } := by
  unfold State.lockGone State.pinLocked
  cases pin : s.lockPin.mem l.val
  · rw [FlagSet.erase_of_not_mem pin]; rfl
  · simp [show s.cmp.engine.resetting = true from h, State.resetting]

theorem State.soundingLost_resetting (c : ContextId) : s.soundingLost c = s := by
  unfold State.soundingLost
  cases s.su.contexts.get c with
  | none => rfl
  | some x => simp [h]

end Resetting

/-- Settles O36: each arrival's first branch is that of a resetting engine. -/
theorem nothingArrivesWhileResetting : Obligations.NothingArrivesWhileResetting := by
  intro s engine
  have h := State.resetting_iff.2 engine
  have line (l : Line) (bytes : List Byte) : s.lineArrives l .lastByte bytes = quietLine s l := State.lineArrives_resetting h l bytes
  exact ⟨fun l bytes => ⟨congrArg _ (line l bytes), congrArg _ (line l bytes), congrArg _ (line l bytes), congrArg _ (line l bytes), congrArg _ (line l bytes)⟩,
    fun p bytes => congrArg _ (State.localArrives_resetting h p bytes),
    fun i => congrArg _ (if_pos h), fun c => congrArg _ (State.soundingLost_resetting h c),
    fun l => ⟨congrArg _ (State.presentCome_resetting h l), congrArg _ (State.presentGone_resetting h l)⟩,
    fun l => ⟨congrArg _ (State.lockCome_resetting h l), congrArg _ (State.lockGone_resetting h l)⟩,
    fun l => if_pos (by rw [h, Bool.or_true])⟩

/-! ### Hardware reset and initialisation (R76, R176) -/

theorem LinePort.sampled_radio (presentPin : FlagSet 4) (lockPin : FlagSet 2) (l : RadioLine) (p : LinePort) :
    p.sampled presentPin lockPin (radioLine l) = { p with presence := presentPin.mem l.val } := by
  have medium : mediumOf (radioLine l) = .radio := if_pos l.isLt
  rw [LinePort.sampled, medium]
  rfl

theorem LinePort.sampled_fibre (presentPin : FlagSet 4) (lockPin : FlagSet 2) (l : FibreLine) (p : LinePort) :
    p.sampled presentPin lockPin (fibreLine l) = { p with lock := lockPin.mem l.val, grade := if lockPin.mem l.val then 7 else 0 } := by
  have medium : mediumOf (fibreLine l) = .fibre := if_neg (by simp [fibreLine])
  rw [LinePort.sampled, medium]
  rfl

/-- Settles O33: the reset pin by its level, and the end of initialisation line by line. -/
theorem hardwareResetAndInitialisation : Obligations.HardwareResetAndInitialisation := by
  refine ⟨fun s sent => rfl, fun s held => congrArg _ (if_pos held), fun s running => congrArg _ (if_neg running), fun s other => congrArg _ (if_neg other),
    fun s initialising => ⟨{ s with
      lines := s.lines.mapIdx (LinePort.sampled s.presentPin s.lockPin)
      window := some ⟨0, s.settings.windowLength⟩
      cmp := { s.cmp with engine := .idle } }, congrArg Host.Outcome.next (if_pos initialising), rfl, fun l => ?_, fun l => ?_⟩⟩
  · exact (Table.get_mapIdx ..).trans (LinePort.sampled_radio ..)
  · exact (Table.get_mapIdx ..).trans (LinePort.sampled_fibre ..)

/-! ### SOFT-RESET (R174, R175) -/

/-- Settles O34: the walk's state, read unit by unit. -/
theorem softResetWalksTheUnits : Obligations.SoftResetWalksTheUnits := by
  refine ⟨fun s b rest idle => ?_, fun s idle => ⟨s.startWalk, congrArg _ (State.softReset_of_idle idle), ?_, fun i => ?_, fun l => ?_, fun k => ?_⟩⟩
  · change Host.Outcome.next (s.softReset (b :: rest)) = _
    rw [State.softReset_of_not fun h => by cases h.2]
    exact congrArg _ (State.request_refusing idle rfl)
  · rw [State.startWalk_eq]; rfl
  · rw [State.startWalk_eq]
    dsimp only
    rw [Table.get_map, Path.walked]
    simp only [Path.measured, Bool.or_eq_true, decide_eq_true_eq, or_assoc]
    rfl
  · rw [State.startWalk_eq]; exact Table.get_map ..
  · rw [State.startWalk_eq]; exact Table.get_map ..

/-! ### Events for several paths (R155) -/

/-- An event of a path kind raised for a set touches only its flag and its member set (R155). -/
theorem NoticeUnit.raisePaths_rest (n : NoticeUnit) (k : PathEvent) (who : FlagSet 32) :
    n.raisePaths k who = { n with flags := (n.raisePaths k who).flags, pathSets := (n.raisePaths k who).pathSets } := by
  unfold NoticeUnit.raisePaths
  split <;> rfl

/-- The flags after an event of a path kind for a set: the kind's own is set when the set has a member (R155). -/
theorem NoticeUnit.raisePaths_flags (n : NoticeUnit) (k : PathEvent) (who : FlagSet 32) (f : Fin 17) :
    (n.raisePaths k who).flags.mem f.val = true ↔ n.flags.mem f.val = true ∨ (f.val = k.index.val ∧ ∃ i : PathSlot, who.mem i.val = true) := by
  unfold NoticeUnit.raisePaths
  split
  · next none =>
    subst none
    simp only [FlagSet.mem_zero, Bool.false_eq_true, exists_false, and_false, or_false]
  · next some =>
    have member : ∃ i : PathSlot, who.mem i.val = true := by
      by_contra none
      refine some (FlagSet.ext_mem fun i => ?_)
      rw [FlagSet.mem_zero]
      simpa using fun h => none ⟨i, h⟩
    simp only [member, and_true]
    rw [FlagSet.mem_insert _ _ _ f.isLt, Bool.or_eq_true, decide_eq_true_eq]
    exact or_congr_right ⟨Eq.symm, Eq.symm⟩

/-- The member sets after an event of a path kind for a set (R155). -/
theorem NoticeUnit.raisePaths_member (n : NoticeUnit) (k : PathEvent) (who : FlagSet 32) (f : Fin 6) (i : PathSlot) :
    ((n.raisePaths k who).pathSets.get f).mem i.val = true ↔ (n.pathSets.get f).mem i.val = true ∨ (f = k.index ∧ who.mem i.val = true) := by
  rw [NoticeUnit.raisePaths_pathSets, Bool.or_eq_true, Bool.and_eq_true, decide_eq_true_eq]

/-! ### The ms tick (R19, R85) -/

theorem State.off_iff {s : State} : s.off = true ↔ s.cmp.engine = .initialising ∨ s.cmp.engine = .held := by
  rw [State.off]
  cases s.cmp.engine <;> simp [Engine.off]

/-- An age saturates at 65,535 (R19). -/
theorem Path.toNat_aged (p : Path) : p.aged.toNat = min (p.age.toNat + 1) 65535 := toNat_bump p.age

theorem Path.goesStale_iff {p : Path} {limit : Nat} : p.goesStale limit = true ↔ p.est = .valid ∧ limit < min (p.age.toNat + 1) 65535 := by
  rw [Path.goesStale, Bool.and_eq_true, decide_eq_true_eq, decide_eq_true_eq, Path.toNat_aged]

/-- A path after a ms tick: a VALID estimate is one older, and STALE beyond the age limit (R19). -/
theorem Path.age1_eq (p : Path) (limit : Nat) : p.age1 limit =
    if p.est = .valid then
      { p with age := BitVec.ofNat 16 (min (p.age.toNat + 1) 65535), est := if limit < min (p.age.toNat + 1) 65535 then .stale else .valid }
    else p := by
  unfold Path.age1
  by_cases valid : p.est = .valid
  · rw [if_pos valid, if_pos valid]
    simp only [Path.goesStale_iff, valid, true_and]
    rfl
  · rw [if_neg valid, if_neg valid]

theorem Feed.clearRate_eq (f : Feed) : f.clearRate = if f.opened = true ∧ f.direction = .outbound then { f with out := { f.out with rateCount := 0 } } else f := by
  simp [Feed.clearRate]

/-- The units a ms tick counts on, before ageing (R70, R85). -/
def State.tickedMs (s : State) : State := { s with
  nextMs := s.nextMs + 400000
  feeds := s.feeds.map Feed.clearRate
  window := s.window.map fun x => { x with elapsed := x.elapsed + 1 } }

theorem State.msTick_eq {s : State} (on : s.off = false) (due : s.nextMs ≤ s.clock) : s.msTick = if s.resetting then s.tickedMs else s.tickedMs.ageAll := by
  unfold State.msTick
  rw [on, if_neg (by simp [Nat.not_lt.2 due])]
  rfl

/-- Settles O37: the units of the tick, and ageing outside RESETTING. -/
theorem msTickAgesAndClears : Obligations.MsTickAgesAndClears := by
  refine ⟨fun s early => congrArg _ (if_pos ?_), fun s running notHeld due => ?_⟩
  · rw [Bool.or_eq_true, State.off_iff, decide_eq_true_eq, or_assoc]
    exact early
  have on : s.off = false := Bool.eq_false_iff.2 fun h => (State.off_iff.1 h).elim running notHeld
  have feeds (k : FeedSlot) := (Table.get_map Feed.clearRate s.feeds k).trans (Feed.clearRate_eq (s.feeds.get k))
  refine ⟨s.msTick, rfl, ?_⟩
  rw [State.msTick_eq on due]
  by_cases walking : s.cmp.engine = .walking
  · rw [if_pos (State.resetting_iff.2 (.inl walking))]
    exact ⟨rfl, feeds, rfl, fun _ => ⟨rfl, rfl⟩, fun h => absurd walking h⟩
  · have active : ¬ s.resetting = true := fun h => (State.resetting_iff.1 h).elim walking fun h => h.elim running notHeld
    rw [if_neg active]
    refine ⟨rfl, feeds, rfl, fun h => absurd h walking, fun _ => ⟨fun i => ?_, NoticeUnit.raisePaths_rest _ _ _, fun k i => ?_, fun f => ?_⟩⟩
    · exact (Table.get_map ..).trans (Path.age1_eq _ _)
    · refine (NoticeUnit.raisePaths_member _ .stale _ k i).trans (or_congr_right (and_congr_right' ?_))
      rw [FlagSet.mem_ofPred]
      exact Path.goesStale_iff
    · refine (NoticeUnit.raisePaths_flags _ .stale _ f).trans (or_congr_right (and_congr (Fin.ext_iff (b := 4)).symm (exists_congr fun i => ?_)))
      rw [FlagSet.mem_ofPred]
      exact Path.goesStale_iff

end Sys2Proof.Machine
end

section
/-! The fade-window close: classes, moves and events (R70 to R72). -/

namespace Sys2Proof.Machine

/-! ### Classes and moves -/

theorem mediumOf_radio (l : Line) : mediumOf l = .radio ↔ l.val < 4 := by
  unfold mediumOf
  split <;> simp [*]

section Move
variable (s : State) (p : Path)

/-- The condition of class BAD (R71). -/
def windowBad : Bool :=
  s.settings.fadeThreshold ≤ p.weather.erroredFrames.toNat ∨ 2 ≤ p.weather.lostSoundings.toNat ∨ (p.line.val < 4 ∧ p.weather.minGrade.val ≤ s.settings.gradeFloor)

/-- The condition of class POOR, BAD apart (R71). -/
def windowPoor : Bool := s.settings.marginalThreshold ≤ p.weather.erroredFrames.toNat ∨ p.weather.lostSoundings.toNat = 1

/-- The condition of class CLEAN, BAD and POOR apart (R71). -/
def windowClean : Bool :=
  p.weather.erroredFrames.toNat = 0 ∧ p.weather.lostSoundings.toNat = 0 ∧ 1 ≤ p.weather.goodFrames.toNat + p.weather.goodResults.toNat

/-- The run count after one more clean window (R72). -/
def runAfter : Nat := min (p.weather.run.toNat + 1) 255

/-- The class is that of the first condition that holds (R71). -/
theorem classify_eq : p.weather.classify s.settings (mediumOf p.line)
    = if windowBad s p then .bad else if windowPoor s p then .poor else if windowClean p then .clean else .quiet := by
  have zero {w : Nat} (c : BitVec w) : c = 0 ↔ c.toNat = 0 := by
    rw [← BitVec.toNat_inj]; simp
  simp only [WeatherRecord.classify, windowBad, windowPoor, windowClean, Bool.or_eq_true, Bool.and_eq_true, decide_eq_true_eq, mediumOf_radio, zero, or_assoc, and_assoc]

/-- The weather and the run count after a window, by R72's table. -/
def windowMove : Weather × Nat :=
  match p.weather.state with
  | .clear => if windowBad s p then (.faded, 0) else if windowPoor s p then (.marginal, 0) else (.clear, p.weather.run.toNat)
  | .marginal =>
    if windowBad s p then (.faded, 0)
    else if windowPoor s p then (.marginal, 0)
    else if windowClean p then (if s.settings.settleWindows ≤ runAfter p then (.clear, 0) else (.marginal, runAfter p))
    else (.marginal, p.weather.run.toNat)
  | .faded => if windowBad s p || windowPoor s p then (.faded, p.weather.run.toNat) else if windowClean p then (.mending, 1) else (.faded, p.weather.run.toNat)
  | .mending =>
    if windowBad s p || windowPoor s p then (.faded, 0)
    else if windowClean p then (if s.settings.recoveryWindows ≤ runAfter p then (.clear, 0) else (.mending, runAfter p))
    else (.mending, p.weather.run.toNat)

/-- The event of a move: one at each entry to FADED and at each entry to CLEAR (R72). -/
def enteredEvent (old new : Weather) : Option PathEvent :=
  if old = new then none else if new = .faded then some .faded else if new = .clear then some .cleared else none

/-- A window moves a path's weather as R72's table says, with its event at an entry. -/
theorem weatherMove_eq : p.weatherMove s.settings
    = ((windowMove s p).1, BitVec.ofNat 8 (windowMove s p).2, enteredEvent p.weather.state (windowMove s p).1) := by
  have moreNat : (bump p.weather.run).toNat = runAfter p := toNat_bump _
  have same : BitVec.ofNat 8 p.weather.run.toNat = p.weather.run := by simp
  unfold Path.weatherMove windowMove
  rw [classify_eq]
  cases windowBad s p with
  | true => cases p.weather.state <;> simp only [moveWeather, if_true, Bool.true_or, same] <;> rfl
  | false =>
    cases windowPoor s p with
    | true => cases p.weather.state <;> simp only [moveWeather, Bool.false_eq_true, if_true, if_false, Bool.false_or, same] <;> rfl
    | false =>
      cases windowClean p with
      | false => cases p.weather.state <;> simp only [moveWeather, Bool.false_eq_true, if_false, Bool.false_or, same] <;> rfl
      | true =>
        cases p.weather.state <;> simp only [moveWeather, moreNat, Bool.false_eq_true, if_true, if_false, Bool.false_or, same]
        case clear | faded => rfl
        all_goals split <;> rfl

end Move

/-! ### The close -/

/-- The measured paths whose move enters a weather state (R72). -/
theorem State.moved_iff (s : State) {k : PathEvent} {w : Weather} (kind : ∀ old new : Weather, enteredEvent old new = some k ↔ old ≠ w ∧ new = w) (i : PathSlot) :
    (s.moved k).mem i.val = true
      ↔ (s.paths.get i).measured = true ∧ (s.paths.get i).weather.state ≠ w ∧ (windowMove s (s.paths.get i)).1 = w := by
  rw [State.moved, FlagSet.mem_ofPred, Bool.and_eq_true, decide_eq_true_eq, weatherMove_eq]
  exact and_congr_right' (kind _ _)

theorem enteredEvent_faded (old new : Weather) : enteredEvent old new = some .faded ↔ old ≠ .faded ∧ new = .faded := by
  cases old <;> cases new <;> decide

theorem enteredEvent_cleared (old new : Weather) : enteredEvent old new = some .cleared ↔ old ≠ .clear ∧ new = .clear := by
  cases old <;> cases new <;> decide

/-- Two changes of the flags and the path kinds' sets alone make one (R155). -/
theorem NoticeUnit.pathsOnly_trans {a b c : NoticeUnit} (h : b = { a with flags := b.flags, pathSets := b.pathSets }) (k : c = { b with flags := c.flags, pathSets := c.pathSets }) :
    c = { a with flags := c.flags, pathSets := c.pathSets } := by
  rw [k, h]

theorem State.windowClose_early {s : State} (h : ∀ w, s.window = some w → w.elapsed < w.length) : s.windowClose = s := by
  unfold State.windowClose
  split
  · rfl
  · next w running => exact if_neg (Nat.not_le.2 (h w running))

theorem State.windowClose_due {s : State} {w : WindowTimer} (running : s.window = some w) (due : w.length ≤ w.elapsed) : s.windowClose = s.closeWindow := by
  unfold State.windowClose
  rw [running]
  exact if_pos due

/-- A close touches the paths, the window timer and NU alone (R70). -/
theorem State.closeWindow_rest (s : State) :
    s.closeWindow = { s with paths := s.closeWindow.paths, window := some ⟨0, s.settings.windowLength⟩, nu := s.closeWindow.nu } := by
  simp only [State.closeWindow, State.raisePaths, State.onNu]

/-- What a close leaves in NU: its two kinds of events, FADED first. -/
theorem State.closeWindow_nu (s : State) : s.closeWindow.nu = (s.nu.raisePaths .faded (s.moved .faded)).raisePaths .cleared (s.moved .cleared) := rfl

/-- What a close leaves of a path (R70, R72). -/
theorem State.closeWindow_path (s : State) (i : PathSlot) : s.closeWindow.paths.get i =
    if (s.paths.get i).measured then
      { s.paths.get i with weather :=
          ⟨(windowMove s (s.paths.get i)).1, 0, 0, 0, 0, (s.lines.get (s.paths.get i).line).grade, BitVec.ofNat 8 (windowMove s (s.paths.get i)).2⟩ }
    else s.paths.get i := by
  refine (Table.get_map ..).trans ?_
  rw [Path.closeWindow, weatherMove_eq]

/-- Settles O38: the close path by path, each path's move by R72's table, and the two kinds of events it raises. -/
theorem windowCloseMovesWeather : Obligations.WindowCloseMovesWeather := by
  refine ⟨fun s early => congrArg _ (State.windowClose_early early), fun s w running due => ⟨s.closeWindow, congrArg _ (State.windowClose_due running due), s.closeWindow_rest,
    s.closeWindow_path, ?_, fun k i => ?_, fun f => ?_⟩⟩ <;> rw [State.closeWindow_nu]
  · exact NoticeUnit.pathsOnly_trans (NoticeUnit.raisePaths_rest s.nu .faded (s.moved .faded)) (NoticeUnit.raisePaths_rest _ .cleared (s.moved .cleared))
  · rw [NoticeUnit.raisePaths_member, NoticeUnit.raisePaths_member, s.moved_iff enteredEvent_faded, s.moved_iff enteredEvent_cleared, or_assoc]
    rfl
  · rw [NoticeUnit.raisePaths_flags, NoticeUnit.raisePaths_flags, or_assoc]
    simp only [s.moved_iff enteredEvent_faded, s.moved_iff enteredEvent_cleared]
    exact or_congr_right (or_congr (and_congr_left' (Fin.ext_iff (b := 2)).symm) (and_congr_left' (Fin.ext_iff (b := 3)).symm))

end Sys2Proof.Machine
end

section
/-! Frames at their last byte, and how a frame with a good header is read (R145, R146, R148). -/

namespace Sys2Proof.Machine

/-! ### The last byte of a frame -/

theorem lineStamp_eq (r : State) (l : Line) : r.lineStamp l = stampOnLine r l := by
  unfold State.lineStamp stampOnLine
  cases r.lineArrival.get l <;> rfl

theorem portStamp_eq (r : State) (p : Port) : r.portStamp p = stampOnPort r p := by
  unfold State.portStamp stampOnPort
  cases r.portArrival.get p <;> rfl

/-- A line frame is judged at its last byte, on the state with no frame in arrival (R148). -/
theorem lineArrives_lastByte (r : State) (l : Line) (bytes : List Byte) :
    r.lineArrives l .lastByte bytes = (quietLine r l).lineFrame l (stampOnLine r l) bytes := by
  rw [← lineStamp_eq]; rfl

/-- A local frame is judged at its last byte (R152). -/
theorem localArrives_lastByte (r : State) (p : Port) (bytes : List Byte) :
    r.localArrives p .lastByte bytes = (quietPort r p).localFrame p (stampOnPort r p) bytes := by
  rw [← portStamp_eq]; rfl

/-- A frame with a good header, on a line that receives, goes on by its kind (R148). -/
theorem lineFrame_of_good {s : State} {l : Line} {stamp : Stamp} {bytes : List Byte} {k : FrameKind} (running : s.resetting = false)
    (receives : (s.lines.get l).rxEnable = true) (good : goodHeader bytes = some k) : s.lineFrame l stamp bytes = s.receiveKind l stamp bytes k := by
  rw [State.lineFrame, if_neg (by simp [running]), if_pos receives, good]

/-! ### Headers -/

theorem length_withHeaderCheck (h : List Byte) : (withHeaderCheck h).length = h.length + 2 := by simp [withHeaderCheck]

/-- A header that carries its own check passes it (R146). -/
theorem headerCheckGood_withHeaderCheck {k : FrameKind} {h : List Byte} (rest : List Byte) (len : h.length = k.headerLength - 2) :
    headerCheckGood k (withHeaderCheck h ++ rest) = true := by
  rw [headerCheckGood, decide_eq_true_eq, ← len, withHeaderCheck, List.append_assoc, List.take_left,
    field_append_right _ _ _ _ le_rfl, Nat.sub_self, field_word 2 _ rest (by decide)]

/-- A frame whose header carries its own check, is long enough and is well formed, is good (R148). -/
theorem goodHeader_withHeaderCheck {b : Byte} {h : List Byte} {k : FrameKind} (rest : List Byte) (kind : frameKind b = some k)
    (len : h.length + 3 = k.headerLength) (formed : headerFormed k (withHeaderCheck (b :: h) ++ rest) = true) :
    goodHeader (withHeaderCheck (b :: h) ++ rest) = some k := by
  have check := headerCheckGood_withHeaderCheck (k := k) (h := b :: h) rest (by simp only [List.length_cons]; omega)
  have long : k.headerLength ≤ (withHeaderCheck (b :: h) ++ rest).length := by
    rw [List.length_append, length_withHeaderCheck, List.length_cons]; omega
  change (match frameKind b with
    | none => none
    | some k => if k.headerLength ≤ (withHeaderCheck (b :: h) ++ rest).length && headerCheckGood k (withHeaderCheck (b :: h) ++ rest)
        && headerFormed k (withHeaderCheck (b :: h) ++ rest) then some k else none) = some k
  rw [kind]
  exact if_pos (by rw [decide_eq_true long, check, formed]; rfl)

/-! ### MODEM STATUS frames -/

/-- The bytes of a MODEM STATUS frame with a good header check (R145). -/
def statusBytes (carrier : Bool) (grade : Fin 8) : List Byte :=
  withHeaderCheck ([0x04, byteOf ((if carrier then 128 else 0) + grade.val)] ++ List.replicate 4 0)

theorem goodHeader_statusBytes (carrier : Bool) (grade : Fin 8) : goodHeader (statusBytes carrier grade) = some .modemStatus := by
  have good := goodHeader_withHeaderCheck (h := byteOf ((if carrier then 128 else 0) + grade.val) :: List.replicate 4 0) (b := 0x04#8) (k := .modemStatus) []
    rfl rfl (by simp [headerFormed, length_withHeaderCheck])
  rwa [List.append_nil] at good

/-- A MODEM STATUS frame's second byte carries its carrier flag and its grade (R145). -/
theorem status_fields : ∀ (carrier : Bool) (grade : Fin 8),
    statusCarrier (statusBytes carrier grade) = carrier ∧ statusGrade (statusBytes carrier grade) = grade := by
  have second (carrier : Bool) (grade : Fin 8) : field (statusBytes carrier grade) 1 1 = (byteOf ((if carrier then 128 else 0) + grade.val)).toNat :=
    (field_cons _ _ 0 1).trans (field_cons_zero_one _ _)
  have read : ∀ (carrier : Bool) (grade : Fin 8),
      decide ((byteOf ((if carrier then 128 else 0) + grade.val)).toNat / 128 % 2 = 1) = carrier
        ∧ Fin.ofNat 8 (byteOf ((if carrier then 128 else 0) + grade.val)).toNat = grade := by decide
  intro carrier grade
  rw [statusCarrier, statusGrade, second]
  exact read carrier grade

/-- A MODEM STATUS frame on a line that receives is taken by the line's status logic (R60, R150). -/
theorem exec_statusFrame {r : State} {l : Line} (running : (quietLine r l).resetting = false) (receives : ((quietLine r l).lines.get l).rxEnable = true)
    (carrier : Bool) (grade : Fin 8) :
    exec (.modemStatusFrame l .lastByte (statusBytes carrier grade)) r = .next ((quietLine r l).takeModemStatus l carrier grade) := by
  obtain ⟨hc, hg⟩ := status_fields carrier grade
  change Host.Outcome.next (r.lineArrives l .lastByte _) = _
  rw [lineArrives_lastByte, lineFrame_of_good running receives (goodHeader_statusBytes carrier grade), State.receiveKind, hc, hg]

end Sys2Proof.Machine
end

section
/-! Carrier, presence, lock and status timers: returns, grades, and the changes without a loss (R59 to R64, R67). -/

namespace Sys2Proof.Machine

/-! ### Grades and returns -/

theorem LinePort.carrier_of_grade {p : LinePort} (h : p.grade ≠ 0) : p.carrier = true := decide_eq_true h

theorem LinePort.lost_of_grade {p : LinePort} (h : p.grade = 0) : p.carrier = false := decide_eq_false (by simp [h])

theorem recordGrade_eq (l : Line) (grade : Fin 8) : Path.recordGrade l grade = graded l grade := by
  funext p
  simp [Path.recordGrade, graded]

/-- A carrier return, then the due soundings and the frame boundary (R67, log 13). -/
theorem State.carrierReturn_eq (s : State) (l : Line) (grade : Fin 8) : s.carrierReturn l grade = (carrierBack s l grade).serve.boundary l := by
  rw [State.carrierReturn, recordGrade_eq]
  rfl

/-- A grade on a LOST line is a carrier return (R59, R67). -/
theorem State.takeGrade_return {s : State} {l : Line} {grade : Fin 8} (lost : (s.lines.get l).grade = 0) (h : grade ≠ 0) :
    s.takeGrade l grade = (carrierBack s l grade).serve.boundary l := by
  rw [State.takeGrade, if_neg (by simp [LinePort.lost_of_grade lost]), if_neg h, State.carrierReturn_eq]

/-- Another grade on a PRESENT line is recorded (R64). -/
theorem State.takeGrade_change {s : State} {l : Line} {grade : Fin 8} (present : (s.lines.get l).grade ≠ 0) (h : grade ≠ 0) :
    s.takeGrade l grade = { s with
      lines := s.lines.set l { s.lines.get l with grade := grade }
      paths := s.paths.map (graded l grade) } := by
  rw [State.takeGrade, if_pos (LinePort.carrier_of_grade present), if_neg h, recordGrade_eq]
  rfl

/-- Grade 0 on a LOST line is recorded alone (R60). -/
theorem State.takeGrade_lost {s : State} {l : Line} (lost : (s.lines.get l).grade = 0) :
    s.takeGrade l 0 = { s with paths := s.paths.map (graded l 0) } := by
  rw [State.takeGrade, if_neg (by simp [LinePort.lost_of_grade lost]), if_pos rfl, recordGrade_eq]

/-- Grade 0 on a PRESENT line is a carrier loss (R60). -/
theorem State.takeGrade_loss {s : State} {l : Line} (present : (s.lines.get l).grade ≠ 0) : s.takeGrade l 0 = s.carrierLoss l := by
  rw [State.takeGrade, if_pos (LinePort.carrier_of_grade present), if_pos rfl]

theorem radioOf_radioLine (l : RadioLine) : (radioOf (radioLine l)).isSome = true := by
  rw [radioOf, dif_pos (show (radioLine l).val < 4 from l.isLt)]; rfl

theorem radioOf_fibre {l : Line} (h : 4 ≤ l.val) : radioOf l = none := dif_neg (by omega)

/-- A line whose status timer is armed afresh for 5 ms (R60). -/
def State.timerArmed (s : State) (l : Line) : State := { s with lines := s.lines.set l { s.lines.get l with timer := some (s.clock + 2000000) } }

/-- On a radio line with its modem, a MODEM STATUS frame arms the timer and gives the line its grade (R60). -/
theorem State.takeModemStatus_radio {s : State} {l : RadioLine} (fitted : (s.lines.get (radioLine l)).presence = true) (carrier : Bool) (grade : Fin 8) :
    s.takeModemStatus (radioLine l) carrier grade = (s.timerArmed (radioLine l)).takeGrade (radioLine l) (reportedGrade carrier grade) := by
  rw [State.takeModemStatus, if_pos (by rw [radioOf_radioLine, fitted]; rfl)]
  rfl

theorem State.timerArmed_grade (s : State) (l : Line) : ((s.timerArmed l).lines.get l).grade = (s.lines.get l).grade :=
  (congrArg LinePort.grade (Table.get_set_self s.lines l _)).trans rfl

/-- Without a modem, and on a fibre line, STATUS DISCARDED is counted (R60, R150). -/
theorem State.takeModemStatus_discarded {s : State} {l : Line} (h : 4 ≤ l.val ∨ (s.lines.get l).presence = false) (carrier : Bool) (grade : Fin 8) :
    s.takeModemStatus l carrier grade = s.countLine l fun k => { k with statusDiscarded := bump k.statusDiscarded } := by
  refine if_neg ?_
  obtain fibre | absent := h
  · simp [radioOf_fibre fibre]
  · simp [absent]

theorem reportedGrade_zero {carrier : Bool} {grade : Fin 8} (h : carrier = false ∨ grade = 0) : reportedGrade carrier grade = 0 := by
  obtain rfl | rfl := h
  · rfl
  · cases carrier <;> rfl

/-- Settles O40: by the line's carrier and the grade that the frame reports. -/
theorem modemStatusIsTaken : Obligations.ModemStatusIsTaken := by
  intro r carrier grade running
  refine ⟨fun l receives fitted => ⟨?_, ?_, ?_⟩, fun l receives discarded => ?_⟩
  · rintro rfl above lost
    rw [← State.takeGrade_return (by rw [← lost]; exact State.timerArmed_grade (quietLine r (radioLine l)) _) above]
    exact (exec_statusFrame running receives _ _).trans (congrArg _ (State.takeModemStatus_radio fitted _ _))
  · rintro rfl above present
    refine (exec_statusFrame running receives _ _).trans (congrArg _ ((State.takeModemStatus_radio fitted _ _).trans ?_))
    exact State.takeGrade_change (by rw [State.timerArmed_grade]; exact present) above
  · intro zero lost
    refine (exec_statusFrame running receives _ _).trans (congrArg _ ((State.takeModemStatus_radio fitted _ _).trans ?_))
    rw [reportedGrade_zero zero]
    exact State.takeGrade_lost (by rw [State.timerArmed_grade]; exact lost)
  · exact (exec_statusFrame running receives _ _).trans (congrArg _ (State.takeModemStatus_discarded discarded _ _))

/-! ### Pins and timers (R61 to R63) -/

/-- Whether the line still has no carrier once its record was changed apart from its grade. -/
theorem lost_of_modify {s : State} {l : Line} (f : LinePort → LinePort) (h : (f (s.lines.get l)).grade = 0) : ((s.onLine l f).lines.get l).carrier = false :=
  LinePort.lost_of_grade (by rw [State.onLine_lines, Table.get_modify_self]; exact h)

theorem present_of_modify {s : State} {l : Line} (f : LinePort → LinePort) (h : (f (s.lines.get l)).grade ≠ 0) : ((s.onLine l f).lines.get l).carrier = true :=
  LinePort.carrier_of_grade (by rw [State.onLine_lines, Table.get_modify_self]; exact h)

/-- A modem removed from a LOST line idles the timer and raises MODEM CHANGE (R62). -/
theorem State.removeModem_lost {s : State} {l : RadioLine} (lost : (s.lines.get (radioLine l)).grade = 0) :
    s.removeModem l = (s.onLine (radioLine l) fun p => { p with presence := false, timer := none }).raiseLine .modemChange (radioLine l) := by
  rw [State.removeModem]
  refine if_neg ?_
  rw [State.raiseLine_lines, lost_of_modify _ lost]
  decide

/-- A lock lost on a LOST line changes the lock alone (R63). -/
theorem State.loseLock_lost {s : State} {l : FibreLine} (lost : (s.lines.get (fibreLine l)).grade = 0) :
    s.loseLock l = s.onLine (fibreLine l) fun p => { p with lock := false } := by
  rw [State.loseLock]
  refine if_neg ?_
  rw [lost_of_modify _ lost]
  decide

/-- Settles O41: by the pin's level, the line's carrier and the timer. -/
theorem pinsAndTimersWithoutALoss : Obligations.PinsAndTimersWithoutALoss := by
  refine ⟨fun s l running => ⟨fun pin lost => ?_, fun pin => ⟨?_, ?_⟩, fun pin => ?_⟩, fun s l running => ⟨fun pin => ⟨fun lost => ?_, ?_⟩, fun pin => ⟨fun lost => ?_, ?_⟩⟩,
    fun s l => ⟨fun at_ armed reached lost => ?_, fun early => ?_⟩⟩
  · refine congrArg Host.Outcome.next ?_
    rw [State.presentGone, State.pinPresent, if_pos pin, running]
    exact State.removeModem_lost lost
  · refine congrArg Host.Outcome.next ?_
    rw [State.presentCome, State.pinPresent, if_neg (by simp [pin]), running]
    rfl
  · exact congrArg Host.Outcome.next (if_neg (by simp [State.pinPresent, pin]))
  · exact congrArg Host.Outcome.next (if_pos pin)
  · refine congrArg Host.Outcome.next ?_
    rw [State.lockCome, State.pinLocked, if_neg (by simp [pin]), running]
    exact State.takeGrade_return (by rw [State.onLine_lines, Table.get_modify_self]; exact lost) (by decide)
  · exact congrArg Host.Outcome.next (if_neg (by simp [State.pinLocked, pin]))
  · refine congrArg Host.Outcome.next ?_
    rw [State.lockGone, State.pinLocked, if_pos pin, running]
    exact State.loseLock_lost lost
  · exact congrArg Host.Outcome.next (if_pos pin)
  · refine congrArg Host.Outcome.next ?_
    rw [State.statusTimer, armed]
    refine (if_pos reached).trans (if_neg ?_)
    rw [lost_of_modify _ lost]; decide
  · refine congrArg Host.Outcome.next ?_
    rw [State.statusTimer]
    cases armed : (s.lines.get (radioLine l)).timer with
    | none => rfl
    | some at_ => exact if_neg (Nat.not_le.2 (early at_ armed))

end Sys2Proof.Machine
end

section
/-! The carrier-loss cascade, unit by unit, and its causes (R59 to R63, R66, R110). -/

namespace Sys2Proof.Machine

/-! ### The paths of the line -/

theorem Path.live_of_measured {p : Path} (h : p.measured = true) : p.life ≠ .vacant := by
  intro e
  simp [Path.measured, e] at h

theorem Path.stales_iff (l : Line) (p : Path) : p.stales l = true ↔ (p.life ≠ .vacant ∧ p.line = l) ∧ p.est = .valid := by
  simp [Path.stales]

theorem Path.fades_iff (l : Line) (p : Path) : p.fades l = true ↔ p.measured = true ∧ p.line = l ∧ p.weather.state ≠ .faded := by
  simp [Path.fades, and_assoc]

/-- The cascade leaves the paths of other lines, and vacant slots, as they are (R66). -/
theorem Path.loseCarrier_off {l : Line} {p : Path} (h : ¬ (p.life ≠ .vacant ∧ p.line = l)) : p.loseCarrier l = p := by
  have cared : (p.measured && decide (p.line = l)) = false := by
    rw [Bool.and_eq_false_iff, decide_eq_false_iff_not]
    by_cases m : p.measured = true
    · exact .inr fun e => h ⟨Path.live_of_measured m, e⟩
    · exact .inl (Bool.eq_false_iff.2 m)
  have stays : p.stales l = false := Bool.eq_false_iff.2 fun s => h ((Path.stales_iff l p).1 s).1
  rw [Path.loseCarrier, cared, stays]
  rfl

/-- The cascade on a path of the line: its weather FADED when WM cares for it, its VALID estimate STALE (R66). -/
theorem Path.loseCarrier_on {l : Line} {p : Path} (h : p.life ≠ .vacant ∧ p.line = l) : p.loseCarrier l = { p with
    est := if p.est = .valid then .stale else p.est
    weather := if p.measured then { p.weather with state := .faded, run := 0, minGrade := 0 } else p.weather } := by
  simp only [Path.loseCarrier, h.2, decide_true, Bool.and_true, Path.stales_iff, h.1, ne_eq, not_false_eq_true, true_and]

/-! ### The state before the hand-over -/

/-- The cascade up to the flush: paths, events, contexts, and the line LOST with its control slot empty (R66). -/
def State.cutOff (s : State) (l : Line) : State :=
  (((((({ s with paths := s.paths.map (Path.loseCarrier l) } : State).raiseLine .down l).raisePaths .faded (.ofPred fun i => (s.paths.get i).fades l)).raisePaths .stale
    (.ofPred fun i => (s.paths.get i).stales l))).voidContexts fun c => c.line = l).onLine l LinePort.loseCarrier

/-- The state after the cascade, before freed contexts are handed on (R66, log 26). -/
def State.lostCarrier (s : State) (l : Line) : State := (s.cutOff l).flush l

theorem State.carrierLoss_eq (s : State) (l : Line) : s.carrierLoss l = (s.lostCarrier l).serve := rfl

theorem State.cutOff_path (s : State) (l : Line) (i : PathSlot) : (s.cutOff l).paths.get i = (s.paths.get i).loseCarrier l := Table.get_map ..

theorem State.cutOff_line (s : State) (l : Line) : (s.cutOff l).lines.get l = { s.lines.get l with
    grade := 0, echoes := [], sounds := []
    counters := { (s.lines.get l).counters with carrierLosses := bump (s.lines.get l).counters.carrierLosses } } := by
  refine (Table.get_modify_self ..).trans ?_
  rw [State.voidContexts_lines]
  rfl

theorem State.cutOff_frames (s : State) (l : Line) : ((s.cutOff l).lines.get l).frames = (s.lines.get l).frames := by
  rw [State.cutOff_line]; rfl

theorem State.cutOff_other (s : State) {l m : Line} (h : m ≠ l) : (s.cutOff l).lines.get m = { s.lines.get m with
    sounds := (s.lines.get m).sounds.filter fun e => (s.su.contexts.get e.context).all fun x => x.line ≠ l } := by
  refine (Table.get_modify_ne _ h _).trans ?_
  rw [State.voidContexts_lines]
  simp only [decide_not]
  rfl

theorem State.cutOff_context (s : State) (l : Line) (c : ContextId) (x : Context) :
    (s.cutOff l).su.contexts.get c = some x ↔ s.su.contexts.get c = some x ∧ x.line ≠ l := by
  refine (Eq.congr_left (State.voidContexts_contexts ..)).trans ?_
  rw [Option.filter_eq_some_iff]
  simp only [Bool.not_eq_true', decide_eq_false_iff_not]
  rfl

/-- Which paths the flush leaves vacant: WITHDRAWING ones of the line with no frame left (R110). -/
theorem Path.drained_iff (l : Line) (port : LinePort) (p : Path) :
    ((p.loseCarrier l).life = .withdrawing ∧ (p.loseCarrier l).line = l ∧ (Path.flushed l port (p.loseCarrier l)).queued = 0)
      ↔ (p.life ≠ .vacant ∧ p.line = l) ∧ p.life = .withdrawing ∧ p.queued ≤ port.framesOf p.tag := by
  have same : (p.loseCarrier l).life = p.life ∧ (p.loseCarrier l).line = p.line ∧ (p.loseCarrier l).queued = p.queued ∧ (p.loseCarrier l).tag = p.tag := ⟨rfl, rfl, rfl, rfl⟩
  obtain ⟨life, line, queued, tag⟩ := same
  obtain ⟨hv, hl, e⟩ | ⟨hn, e⟩ := Path.flushed_cases l port (p.loseCarrier l) <;> rw [e]
  · rw [life] at hv
    rw [line] at hl
    simp only [life, line, queued, tag, hl, hv, Nat.sub_eq_zero_iff_le, ne_eq, not_false_eq_true, true_and]
  · rw [life, line] at hn
    refine iff_of_false (fun h => hn ⟨?_, h.2.1⟩) fun h => hn h.1
    rw [← life, h.1]
    decide

/-! ### What NU is told -/

theorem NoticeUnit.raisePaths_lineSets (n : NoticeUnit) (k : PathEvent) (who : FlagSet 32) : (n.raisePaths k who).lineSets = n.lineSets := by
  rw [NoticeUnit.raisePaths_rest]

/-- The notice unit after the cascade's four events (R66, R110). -/
def NoticeUnit.told (n : NoticeUnit) (l : Line) (faded stale gone : FlagSet 32) : NoticeUnit :=
  (((n.raiseLine .down l).raisePaths .faded faded).raisePaths .stale stale).raisePaths .withdrawn gone

section Told
variable (n : NoticeUnit) (l : Line) (faded stale gone : FlagSet 32)

theorem NoticeUnit.told_rest :
    n.told l faded stale gone = { n with
      flags := (n.told l faded stale gone).flags, pathSets := (n.told l faded stale gone).pathSets, lineSets := (n.told l faded stale gone).lineSets } := by
  have rest := NoticeUnit.pathsOnly_trans (NoticeUnit.pathsOnly_trans ((n.raiseLine .down l).raisePaths_rest .faded faded) (NoticeUnit.raisePaths_rest _ .stale stale))
    (NoticeUnit.raisePaths_rest _ .withdrawn gone)
  have lines : (n.told l faded stale gone).lineSets = (n.raiseLine .down l).lineSets := (congrArg NoticeUnit.lineSets rest :)
  rw [lines]
  exact rest

theorem NoticeUnit.told_lines (k : Fin 3) (m : Line) :
    ((n.told l faded stale gone).lineSets.get k).mem m.val = true ↔ (n.lineSets.get k).mem m.val = true ∨ (k = 0 ∧ m = l) := by
  rw [NoticeUnit.told, NoticeUnit.raisePaths_lineSets, NoticeUnit.raisePaths_lineSets, NoticeUnit.raisePaths_lineSets]
  change ((n.lineSets.modify 0 (·.insert l.val)).get k).mem m.val = true ↔ _
  rw [Table.get_modify]
  split
  · next h => rw [h, FlagSet.mem_insert_fin, Bool.or_eq_true, decide_eq_true_eq, eq_comm (a := l)]; simp
  · next h => simp [h]

theorem NoticeUnit.told_paths (k : Fin 6) (i : PathSlot) :
    ((n.told l faded stale gone).pathSets.get k).mem i.val = true
      ↔ (n.pathSets.get k).mem i.val = true ∨ (k = 2 ∧ faded.mem i.val = true) ∨ (k = 4 ∧ stale.mem i.val = true) ∨ (k = 5 ∧ gone.mem i.val = true) := by
  rw [NoticeUnit.told, NoticeUnit.raisePaths_member, NoticeUnit.raisePaths_member, NoticeUnit.raisePaths_member, or_assoc, or_assoc]
  rfl

theorem NoticeUnit.told_flags (f : Fin 17) :
    (n.told l faded stale gone).flags.mem f.val = true
      ↔ n.flags.mem f.val = true ∨ f = 6 ∨ (f = 2 ∧ ∃ i : PathSlot, faded.mem i.val = true) ∨ (f = 4 ∧ ∃ i : PathSlot, stale.mem i.val = true)
        ∨ (f = 5 ∧ ∃ i : PathSlot, gone.mem i.val = true) := by
  rw [NoticeUnit.told, NoticeUnit.raisePaths_flags, NoticeUnit.raisePaths_flags, NoticeUnit.raisePaths_flags, or_assoc, or_assoc]
  have down : (n.raiseLine .down l).flags.mem f.val = true ↔ n.flags.mem f.val = true ∨ f = 6 := by
    change (n.flags.insert 6).mem f.val = true ↔ _
    rw [FlagSet.mem_insert _ _ _ f.isLt, Bool.or_eq_true, decide_eq_true_eq]
    exact or_congr_right ⟨fun h => Fin.ext h.symm, fun h => by rw [h]; rfl⟩
  rw [down, or_assoc]
  exact or_congr_right (or_congr_right (or_congr (and_congr_left' (Fin.ext_iff (b := 2)).symm)
    (or_congr (and_congr_left' (Fin.ext_iff (b := 4)).symm) (and_congr_left' (Fin.ext_iff (b := 5)).symm))))

end Told

/-! ### The whole cascade -/

theorem State.cutOff_rest (s : State) (l : Line) : s.cutOff l = { s with
    paths := s.paths.map (Path.loseCarrier l)
    su := { s.su with contexts := (s.cutOff l).su.contexts }
    lines := (s.cutOff l).lines
    nu := (((s.nu.raiseLine .down l).raisePaths .faded (.ofPred fun i => (s.paths.get i).fades l)).raisePaths .stale (.ofPred fun i => (s.paths.get i).stales l)) } := by
  simp only [State.cutOff, State.raisePaths, State.raiseLine, State.onNu, State.voidContexts, State.onLine]

/-- Settles what a carrier loss makes of a state, unit by unit (R66, R110). -/
theorem State.losesCarrier (s : State) (l : Line) : LosesCarrier s (s.lostCarrier l) l := by
  obtain ⟨gone, members, h⟩ := (s.cutOff l).flush_eq l
  have framesOf (tag : BitVec 12) : ((s.cutOff l).lines.get l).framesOf tag = ((s.lines.get l).frames.filter fun f => f.copy.tag = tag).length := by
    rw [LinePort.framesOf, State.cutOff_frames]
  have drained (i : PathSlot) := members i
  simp only [State.cutOff_path, Path.drained_iff, framesOf] at drained
  have u : s.lostCarrier l = { s.cutOff l with
      freeCells := (s.cutOff l).freeCells + queueCells ((s.cutOff l).lines.get l).frames
      lines := (s.cutOff l).lines.modify l LinePort.flush
      paths := (s.cutOff l).paths.mapIdx fun i p => if gone.mem i.val then .vacant else Path.flushed l ((s.cutOff l).lines.get l) p
      nu := (s.cutOff l).nu.raisePaths .withdrawn gone } := h
  have nu : (s.lostCarrier l).nu = s.nu.told l (.ofPred fun i => (s.paths.get i).fades l) (.ofPred fun i => (s.paths.get i).stales l) gone := by rw [u]; rfl
  have line (m : Line) : (s.lostCarrier l).lines.get m = ((s.cutOff l).lines.modify l LinePort.flush).get m := by rw [u]
  have path (i : PathSlot) : (s.lostCarrier l).paths.get i = if gone.mem i.val then .vacant else Path.flushed l ((s.cutOff l).lines.get l) ((s.paths.get i).loseCarrier l) := by
    rw [u]
    dsimp only
    rw [Table.get_mapIdx, State.cutOff_path]
  have off {i : PathSlot} (h : ¬ gone.mem i.val = true) :
      (s.lostCarrier l).paths.get i = Path.flushed l ((s.cutOff l).lines.get l) ((s.paths.get i).loseCarrier l) := by rw [path, if_neg h]
  refine ⟨?_, ?_, ?_, fun m other => ?_, fun c x => ?_, fun i => ⟨fun away => ?_, fun emptied => ?_, fun on stays => ?_⟩, ?_, fun k m => ?_, fun k i => ?_, fun f => ?_⟩
  · rw [u, State.cutOff_rest]
  · rw [u, State.cutOff_frames]; rfl
  · rw [line, Table.get_modify_self, LinePort.flush, State.cutOff_frames, State.cutOff_line]
  · rw [line, Table.get_modify_ne _ other, State.cutOff_other s other]
  · rw [u]; exact s.cutOff_context l c x
  · rw [off fun g => away ((drained i).1 g).1, Path.loseCarrier_off away]
    obtain ⟨hv, hl, -⟩ | ⟨-, e⟩ := Path.flushed_cases l ((s.cutOff l).lines.get l) (s.paths.get i)
    · exact absurd ⟨hv, hl⟩ away
    · exact e
  · rw [path, if_pos ((drained i).2 emptied)]
  · rw [off fun g => stays ((drained i).1 g)]
    obtain ⟨-, -, e⟩ | ⟨hn, -⟩ := Path.flushed_cases l ((s.cutOff l).lines.get l) ((s.paths.get i).loseCarrier l)
    · rw [e, Path.loseCarrier_on on, framesOf]
    · exact absurd on hn
  · rw [nu]; exact NoticeUnit.told_rest ..
  · rw [nu]; exact NoticeUnit.told_lines ..
  · rw [nu, NoticeUnit.told_paths, FlagSet.mem_ofPred, FlagSet.mem_ofPred, Path.fades_iff, Path.stales_iff, drained]
  · rw [nu, NoticeUnit.told_flags]
    simp only [FlagSet.mem_ofPred, Path.fades_iff, Path.stales_iff, drained]

/-! ### The causes -/

/-- Settles O39: each cause on a line with carrier runs the cascade on the state that the cause leaves. -/
theorem carrierLossCascade : Obligations.CarrierLossCascade := by
  refine ⟨fun s l at_ armed reached present => ⟨_, State.losesCarrier _ _, ?_⟩, fun s l running pin present => ⟨_, State.losesCarrier _ _, ?_⟩,
    fun s l running pin present => ⟨_, State.losesCarrier _ _, ?_⟩, fun r l carrier grade => ?_⟩
  · refine congrArg Host.Outcome.next ?_
    rw [State.statusTimer, armed]
    refine (if_pos reached).trans ?_
    rw [State.timerExpires]
    refine (if_pos (present_of_modify _ present)).trans ?_
    rw [← State.carrierLoss_eq]
    refine congrArg (State.carrierLoss · (radioLine l)) ?_
    rw [State.countLine, State.onLine, State.onLine, Table.modify_modify]
    rfl
  · refine congrArg Host.Outcome.next ?_
    rw [State.presentGone, State.pinPresent, if_pos pin, running]
    change State.removeModem _ _ = _
    rw [State.removeModem]
    exact if_pos (by rw [State.raiseLine_lines, present_of_modify _ present])
  · refine congrArg Host.Outcome.next ?_
    rw [State.lockGone, State.pinLocked, if_pos pin, running]
    change State.loseLock _ _ = _
    rw [State.loseLock]
    exact if_pos (present_of_modify _ present)
  · intro s running receives fitted present zero
    refine ⟨_, State.losesCarrier _ _, (exec_statusFrame running receives carrier grade).trans (congrArg Host.Outcome.next ?_)⟩
    rw [State.takeModemStatus_radio fitted, reportedGrade_zero zero, State.takeGrade_loss (by rw [State.timerArmed_grade]; exact present)]
    rfl

end Sys2Proof.Machine
end

section
/-! What a sample makes of a path's estimate and trial (R6, R7, R43 to R49). -/

namespace Sys2Proof.Machine

section Sample
variable (p : Path) (sample : Nat)

/-- The distance of a sample from E, as an absolute difference (R45, R49). -/
theorem distance_eq (e x : Nat) : (distance e x : Int) = |(x : Int) - e| := (Int.abs_eq_natAbs _).symm

/-- A path seeded with a sample (R44). -/
def Path.seededBy : Path := { p with e := sample * 16, j := 0, outlierRun := .none, est := .valid, age := 0 }

/-- A path after the normal update with a sample (R48, R49). -/
def Path.updatedBy : Path := { p with
  e := (p.e + ((sample : Int) * 16 - p.e).tdiv (2 ^ p.tuning.shift)).toNat
  j := (max 0 (min (p.j + (|(sample : Int) * 16 - p.e| - p.j).tdiv 16) 16000000)).toNat
  age := 0
  outlierRun := .none }

theorem Path.update_eq : p.update (sample * 16) = p.updatedBy sample := by
  simp only [Path.update, Path.updatedBy, nextE, nextJ, distance_eq, clampInt, min_comm (b := (16000000 : Int))]
  push_cast
  rfl

/-- A sample applied without a spike guard (R43). -/
theorem Path.applyTrial_eq : p.applyTrial (sample * 16) = if p.est = .valid then p.updatedBy sample else p.seededBy sample := by
  unfold Path.applyTrial
  cases est : p.est
  · rfl
  · rw [Path.update_eq]; rfl
  · rfl

/-- A sample within the spike limit, or on an estimate that is not VALID, is applied (R43, R45). -/
theorem Path.applyService_near (h : p.est ≠ .valid ∨ distance p.e (sample * 16) ≤ p.tuning.spike * 16) :
    p.applyService (sample * 16) = if p.est = .valid then p.updatedBy sample else p.seededBy sample := by
  unfold Path.applyService
  cases est : p.est
  · rfl
  · obtain stale | near := h
    · exact absurd est stale
    · exact (if_neg (Nat.not_lt.2 near)).trans (p.update_eq sample)
  · rfl

/-- A sample beyond the spike limit of a VALID estimate is an outlier (R45). -/
theorem Path.applyService_far (valid : p.est = .valid) (far : p.tuning.spike * 16 < distance p.e (sample * 16)) :
    p.applyService (sample * 16) = p.outlier (sample * 16) := by
  rw [Path.applyService, valid]
  exact if_pos far

/-- An outlier run of another side, or below two, goes on (R46). -/
theorem OutlierRun.extend_short {r : OutlierRun} {side : Side} (h : r ≠ .two side) : r.extend side = some (if r = .one side then .two side else .one side) := by
  cases r with
  | none => rfl
  | one t => by_cases e : t = side <;> simp [OutlierRun.extend, e]
  | two t =>
    have e : t ≠ side := fun e => h (by rw [e])
    simp [OutlierRun.extend, e]

/-- The third outlier of a side ends the run (R46). -/
theorem OutlierRun.extend_third (side : Side) : (OutlierRun.two side).extend side = Option.none := if_pos rfl

/-- The sample's side as the integers compare (R46). -/
theorem sideOf_eq : sideOf p.e (sample * 16) = if (p.e : Int) < (sample : Int) * 16 then .above else .below := by
  rw [sideOf]
  exact if_congr (by omega) rfl rfl

/-- A path whose outlier is counted (R45). -/
def Path.outlying : Path := { p with counters := { p.counters with outliers := bump p.counters.outliers } }

theorem Path.outlier_short {side : Side} (hs : sideOf p.e (sample * 16) = side) (h : p.outlierRun ≠ .two side) :
    p.outlier (sample * 16) = { p.outlying with outlierRun := if p.outlierRun = .one side then .two side else .one side } := by
  rw [Path.outlier]
  dsimp only
  rw [hs, OutlierRun.extend_short h]
  rfl

theorem Path.outlier_third {side : Side} (hs : sideOf p.e (sample * 16) = side) (h : p.outlierRun = .two side) :
    p.outlier (sample * 16) = Path.seededBy { p.outlying with counters := { p.outlying.counters with reseeds := bump p.counters.reseeds } } sample := by
  rw [Path.outlier]
  dsimp only
  rw [hs, h, OutlierRun.extend_third]
  rfl

/-- IN SERVICE and HELD, a sample is applied behind the spike guard (R43). -/
theorem Path.takeResult_service (set : Settings) (h : p.life = .inService ∨ p.life = .held) :
    p.takeResult set (.valid sample) = ⟨p.applyService (sample * 16), none⟩ := by
  unfold Path.takeResult
  obtain e | e := h <;> rw [e]

/-- In TRIAL, a sample is judged by its distance from the nominal delay (R6). -/
theorem Path.takeResult_trial (set : Settings) (h : p.life = .trial) : p.takeResult set (.valid sample) =
    if ((sample : Int) - p.tuning.nominal).natAbs ≤ set.trialTolerance then p.trialGood set.trialCount sample else p.trialBad := by
  unfold Path.takeResult
  rw [h]

end Sample

/-- Settles O46: by the lifecycle, the trial's judgement, and the spike guard with its run. -/
theorem samplesMoveTheEstimate : Obligations.SamplesMoveTheEstimate := by
  intro p set sample
  have sampled : (sample : Int) * 16 / 16 = sample := Int.mul_ediv_cancel _ (by decide)
  have away : (distance p.e (sample * 16) : Int) = |(sample : Int) * 16 - p.e| := by rw [distance_eq]; push_cast; rfl
  refine ⟨fun trial bad => ?_, fun trial good => ?_, fun service => ⟨fun near => ?_, fun valid far => ?_⟩, fun idle => ?_⟩
  · rw [sampled] at bad
    rw [p.takeResult_trial sample set trial, if_neg (Nat.not_le.2 bad)]
    rfl
  · rw [sampled] at good
    rw [p.takeResult_trial sample set trial, if_pos good, Path.trialGood, p.applyTrial_eq sample]
    refine ⟨fun more => (if_neg ?_).trans ?_, fun reached => (if_pos ?_).trans ?_⟩
    · exact Nat.not_le.2 more
    · rfl
    · exact reached
    · rfl
  · rw [p.takeResult_service sample set service, p.applyService_near sample (near.imp id fun h => by omega)]
    rfl
  · rw [p.takeResult_service sample set service, p.applyService_far sample valid (by omega)]
    exact ⟨fun short => congrArg (Judged.mk · none) (p.outlier_short sample (sideOf_eq p sample) short),
      fun third => congrArg (Judged.mk · none) (p.outlier_third sample (sideOf_eq p sample) third)⟩
  · unfold Path.takeResult
    obtain e | e := idle <;> rw [e]

end Sys2Proof.Machine
end

section
/-! The sequence window: its flags by residue, the judgement of an arrival, and that nothing is passed twice (R115, R118 to R122, R128). -/

namespace Sys2Proof.Machine

/-! ### Residues and flags (R115) -/

theorem add_one_ofNat (s : Seq) (j : Nat) : s + 1 + BitVec.ofNat 32 j = s + BitVec.ofNat 32 (j + 1) := by
  rw [BitVec.ofNat_add, BitVec.add_assoc, BitVec.add_comm 1]
  rfl

section Flags
variable {w : Nat}

/-- Two sequence numbers share a flag exactly when the window size divides their difference (R115). -/
theorem residue_eq_iff (hw : w ∣ 2 ^ 32) {a b : Seq} {z : Int} (h : a - b = BitVec.ofInt 32 z) : a.toNat % w = b.toNat % w ↔ (w : Int) ∣ z := by
  have turn : (w : Int) ∣ ((a.toNat : Int) - b.toNat) - z := by
    have whole : ((2 ^ 32 : Nat) : Int) ∣ ((a.toNat : Int) - b.toNat) - z := by
      have := congrArg BitVec.toNat h
      rw [BitVec.toNat_sub, BitVec.toNat_ofInt] at this
      omega
    exact (Int.natCast_dvd_natCast.2 hw).trans whole
  calc a.toNat % w = b.toNat % w ↔ (w : Int) ∣ (a.toNat : Int) - b.toNat := by
        rw [← Int.natCast_inj, Int.natCast_emod, Int.natCast_emod, Int.emod_eq_emod_iff_emod_sub_eq_zero, ← Int.dvd_iff_emod_eq_zero]
    _ ↔ (w : Int) ∣ z := (Int.dvd_iff_dvd_of_dvd_sub turn)

variable (small : w ≤ 256) (pos : 0 < w)
include small pos

theorem seenFlag_markSeen (map : BitVec 256) (s m : Seq) : seenFlag w (markSeen w map s) m = (seenFlag w map m || decide (m.toNat % w = s.toNat % w)) := by
  have bound := Nat.mod_lt m.toNat pos
  simp only [seenFlag, markSeen, BitVec.getLsbD_or, BitVec.getLsbD_twoPow]
  congr 1
  rw [decide_eq_true (show s.toNat % w < 256 from (Nat.mod_lt _ pos).trans_le small), Bool.true_and]
  exact decide_eq_decide.2 ⟨Eq.symm, Eq.symm⟩

theorem seenFlag_markUnseen (map : BitVec 256) (s m : Seq) : seenFlag w (markUnseen w map s) m = (seenFlag w map m && !decide (m.toNat % w = s.toNat % w)) := by
  have bound : m.toNat % w < 256 := (Nat.mod_lt _ pos).trans_le small
  simp only [seenFlag, markUnseen, BitVec.getLsbD_and, BitVec.getLsbD_not, BitVec.getLsbD_twoPow, bound, decide_true, Bool.true_and]
  congr 2
  rw [decide_eq_true (show s.toNat % w < 256 from (Nat.mod_lt _ pos).trans_le small), Bool.true_and]
  exact decide_eq_decide.2 ⟨Eq.symm, Eq.symm⟩

/-- The flags after an advance's numbers were marked unseen (R119). -/
theorem seenFlag_unseeFrom (n : Nat) (s : Seq) (map : BitVec 256) (m : Seq) :
    seenFlag w (unseeFrom w n s map) m = true ↔ seenFlag w map m = true ∧ ∀ j < n, m.toNat % w ≠ (s + BitVec.ofNat 32 j).toNat % w := by
  induction n generalizing s map with
  | zero => simp [unseeFrom]
  | succ n ih =>
    rw [unseeFrom, ih, seenFlag_markUnseen small pos, Bool.and_eq_true, Bool.not_eq_true', decide_eq_false_iff_not]
    simp only [add_one_ofNat]
    constructor
    · rintro ⟨⟨seen, first⟩, later⟩
      refine ⟨seen, fun j hj => ?_⟩
      cases j with
      | zero => simpa using first
      | succ j => exact later j (by omega)
    · rintro ⟨seen, all⟩
      exact ⟨⟨seen, by simpa using all 0 (by omega)⟩, fun j hj => all (j + 1) (by omega)⟩

/-- A map with every flag seen. -/
theorem seenFlag_allSeen (m : Seq) : seenFlag w (allSeen w) m = true := by
  have bound := Nat.mod_lt m.toNat pos
  simp only [seenFlag, allSeen, BitVec.getLsbD_ofNat, Nat.testBit_two_pow_sub_one]
  simp [bound, bound.trans_le small]

omit small pos in
/-- The numbers an advance counts as lost (R119). -/
theorem countUnseen_eq (map : BitVec 256) (n : Nat) (s : Seq) :
    countUnseen w map n s = (List.range n).countP fun k => !seenFlag w map (s + BitVec.ofNat 32 k) := by
  induction n generalizing s with
  | zero => rfl
  | succ n ih =>
    rw [countUnseen, ih, List.range_succ_eq_map, List.countP_cons, List.countP_map]
    simp only [add_one_ofNat, Function.comp_def]
    cases h : seenFlag w map s <;> simp [h, Nat.add_comm]

end Flags

/-! ### The judgement of an arrival (R118 to R122) -/

section Judge
variable {n : Nat} (h4 : 4 ≤ n) (h8 : n ≤ 8)
include h4 h8

/-- A window size of the catalogue lies between 16 and 256 and divides the turn of the numbers. -/
theorem window_bounds : 16 ≤ 2 ^ n ∧ 2 ^ n ≤ 256 ∧ 2 ^ n ∣ 2 ^ 32 :=
  ⟨(Nat.pow_le_pow_right (by decide) h4 : 2 ^ 4 ≤ 2 ^ n), (Nat.pow_le_pow_right (by decide) h8 : 2 ^ n ≤ 2 ^ 8), Nat.pow_dvd_pow 2 (by omega)⟩

/-- The flags of a window based on `h` are all seen (R118, R122). -/
theorem based_seen (h m : Seq) : seenFlag (2 ^ n) (SeqWindow.based (2 ^ n) h).seen m = true :=
  seenFlag_allSeen (window_bounds h4 h8).2.1 (Nat.two_pow_pos n) m

/-- The flags after an advance by `d`: that of `s` seen, those jumped over unseen, the rest as they were (R119). -/
theorem advance_seen (x : SeqWindow) {d : Nat} {s : Seq} (hd : (s - x.high).toInt = d) (above : 0 < d) {k : Nat} (hk : k < 2 ^ n) :
    seenFlag (2 ^ n) (x.advance (2 ^ n) d s).seen (s - BitVec.ofNat 32 k)
      = if k = 0 then true else if k < d then false else seenFlag (2 ^ n) x.seen (s - BitVec.ofNat 32 k) := by
  obtain ⟨low, high, turn⟩ := window_bounds h4 h8
  generalize 2 ^ n = w at *
  have moved : s = x.high + BitVec.ofInt 32 d := by rw [← hd, BitVec.ofInt_toInt]; abel
  have self : s - BitVec.ofNat 32 k - s = BitVec.ofInt 32 (-(k : Int)) := by
    rw [BitVec.ofInt_neg, BitVec.ofInt_natCast]; abel
  have jumped (j : Nat) : s - BitVec.ofNat 32 k - (x.high + 1 + BitVec.ofNat 32 j) = BitVec.ofInt 32 ((d : Int) - k - 1 - j) := by
    simp only [moved, sub_eq_add_neg, BitVec.ofInt_add, BitVec.ofInt_neg, BitVec.ofInt_natCast]
    change _ = BitVec.ofNat 32 d + -BitVec.ofNat 32 k + -1 + -BitVec.ofNat 32 j
    abel
  have clear {z : Int} (h1 : -(w : Int) < z) (h2 : z < w) (h : z ≠ 0) : ¬ (w : Int) ∣ z := fun dvd => h (Int.eq_zero_of_abs_lt_dvd dvd (abs_lt.2 ⟨h1, h2⟩))
  change seenFlag w (markSeen w (unseeFrom w (min d w) (x.high + 1) x.seen) s) _ = _
  rw [seenFlag_markSeen high (by omega)]
  by_cases zero : k = 0
  · rw [if_pos zero, zero]; simp
  rw [if_neg zero, decide_eq_false (fun e => clear (by omega) (by omega) (by omega) ((residue_eq_iff turn self).1 e)), Bool.or_false, Bool.eq_iff_iff,
    seenFlag_unseeFrom high (by omega)]
  by_cases passed : k < d
  · rw [if_pos passed]
    refine iff_of_false (fun ⟨_, all⟩ => all ((d - 1 - k) % w) ?_ ?_) (by decide)
    · exact lt_min ((Nat.mod_le _ _).trans_lt (by omega)) (Nat.mod_lt _ (by omega))
    · refine (residue_eq_iff turn (jumped _)).2 ⟨((d - 1 - k) / w : Nat), ?_⟩
      have split : (w : Int) * ((d - 1 - k) / w : Nat) + ((d - 1 - k) % w : Nat) = (d - 1 - k : Nat) := by exact_mod_cast Nat.div_add_mod (d - 1 - k) w
      omega
  · rw [if_neg passed]
    refine ⟨fun h => h.1, fun seen => ⟨seen, fun j hj e => ?_⟩⟩
    exact clear (by omega) (by omega) (by omega) ((residue_eq_iff turn (jumped j)).1 e)

end Judge

/-- The numbers an advance loses, counted from the window's lower end (R119). -/
theorem lostBy_eq (x : SeqWindow) (w d : Nat) (pos : 0 < w) :
    x.lostBy w d = ((List.range (min d w)).countP fun k => !seenFlag w x.seen (x.high - BitVec.ofNat 32 (w - 1) + BitVec.ofNat 32 k)) + (d - w) := by
  have lower : x.high - BitVec.ofNat 32 w + 1 = x.high - BitVec.ofNat 32 (w - 1) := by
    obtain ⟨v, rfl⟩ : ∃ v, w = v + 1 := ⟨w - 1, by omega⟩
    rw [Nat.add_sub_cancel, BitVec.ofNat_add]
    change _ - (_ + 1) + 1 = _
    abel
  rw [SeqWindow.lostBy, countUnseen_eq, lower]

section Live
variable {x : SeqWindow} (live : x.live = true) (w : Nat) (start : StartMode) (s : Seq)
include live

theorem judge_live : x.judge w start s = x.judgeLive w s := by
  unfold SeqWindow.judge
  exact if_pos live

/-- An arrival above H advances the window (R119). -/
theorem judge_above (above : 0 < (s - x.high).toInt) :
    x.judge w start s = (x.advance w (s - x.high).toInt.toNat s, .advanced (x.lostBy w (s - x.high).toInt.toNat)) :=
  (judge_live live w start s).trans (if_pos above)

/-- An arrival within the window is a duplicate or a late fill by its flag (R120). -/
theorem judge_within (inside : -(w : Int) < (s - x.high).toInt) (below : (s - x.high).toInt ≤ 0) :
    x.judge w start s = if seenFlag w x.seen s then ({ x with tooOldRun := 0 }, .duplicate) else ({ x with seen := markSeen w x.seen s, tooOldRun := 0 }, .lateFill) :=
  (judge_live live w start s).trans ((if_neg (Int.not_lt.2 below)).trans (if_pos inside))

/-- An arrival below the window is too old, and the fourth in a row re-bases (R121, R122). -/
theorem judge_below (old : (s - x.high).toInt ≤ -(w : Int)) :
    x.judge w start s = if x.tooOldRun + 1 < 4 then ({ x with tooOldRun := x.tooOldRun + 1 }, .tooOld) else (.based w s, .restarted) :=
  (judge_live live w start s).trans ((if_neg (show ¬ 0 < seqDiff s x.high by rw [seqDiff]; omega)).trans (if_neg (Int.not_lt.2 old)))

end Live

/-- An EMPTY window starts by its start mode (R118). -/
theorem judge_empty {x : SeqWindow} (empty : x.live = false) (w : Nat) (start : StartMode) (s : Seq) :
    x.judge w start s = match start with
      | .adopt => (.based w s, .adopted)
      | .expect e => (SeqWindow.based w (e - 1)).judge w start s := by
  unfold SeqWindow.judge
  rw [if_neg (by simp [empty])]
  cases start <;> rfl

/-- Settles O50: by the window's state and the place of the arrival. -/
theorem windowsJudgeArrivals : Obligations.WindowsJudgeArrivals := by
  intro n x start s h4 h8
  obtain ⟨low, high, -⟩ := window_bounds h4 h8
  refine ⟨fun live => ⟨fun above => ?_, fun inside below => ⟨fun seen => ?_, fun unseen => ?_⟩, fun old => ⟨fun run => ?_, fun run => ?_⟩⟩,
    fun empty => ⟨fun adopt => ?_, fun e expect => ?_⟩⟩
  · obtain ⟨d, hd⟩ := Int.eq_ofNat_of_zero_le above.le
    refine ⟨x.advance (2 ^ n) d s, live, rfl, rfl, fun k hk => ?_, ?_⟩
    · exact (advance_seen h4 h8 x hd (by omega) hk).trans (if_congr .rfl rfl (if_congr (by omega) rfl rfl))
    · rw [judge_above live _ start s above, lostBy_eq _ _ _ (by omega), hd]
      rfl
  · exact (judge_within live _ start s inside below).trans (if_pos seen)
  · refine ⟨{ x with seen := markSeen (2 ^ n) x.seen s, tooOldRun := 0 }, rfl, seenFlag_markSeen high (by omega) _ _, ?_⟩
    exact (judge_within live _ start s inside below).trans (if_neg (by rw [seenFlag]; exact Bool.eq_false_iff.1 unseen))
  · exact (judge_below live _ start s old).trans (if_pos (by omega))
  · exact ⟨_, ⟨rfl, rfl, rfl, based_seen h4 h8 s⟩, (judge_below live _ start s old).trans (if_neg (by omega))⟩
  · exact ⟨_, ⟨rfl, rfl, rfl, based_seen h4 h8 s⟩, by rw [judge_empty empty, adopt]⟩
  · exact ⟨_, ⟨rfl, rfl, rfl, based_seen h4 h8 (e - 1)⟩, by rw [judge_empty empty, expect]⟩

/-! ### Nothing is passed twice (R128) -/

/-- The signed distance of two numbers that lie within half a turn of a base (R128). -/
theorem toInt_sub_of_near {a b c : Seq} (ha : (a - b).toNat < 2 ^ 31) (hc : (c - b).toNat < 2 ^ 31) : (a - c).toInt = ((a - b).toNat : Int) - (c - b).toNat := by
  have apart : a - c = (a - b) - (c - b) := by abel
  rw [apart]
  generalize a - b = u at *
  generalize c - b = v at *
  rw [BitVec.toInt_eq_toNat_cond, BitVec.toNat_sub]
  split <;> omega

/-- A number at an offset below another's, both counted from a base. -/
theorem eq_sub_of_offset {a b c : Seq} (h : (c - b).toNat ≤ (a - b).toNat) : c = a - BitVec.ofNat 32 ((a - b).toNat - (c - b).toNat) := by
  have apart : a - c = BitVec.ofNat 32 ((a - b).toNat - (c - b).toNat) := by
    rw [show a - c = (a - b) - (c - b) by abel]
    apply BitVec.eq_of_toNat_eq
    rw [BitVec.toNat_sub, BitVec.toNat_ofNat]
    omega
  rw [← apart]
  abel

/-- A number that a window could still pass: above H, or within the window and unseen. `b` is the base from which offsets are counted. -/
def SeqWindow.Fresh (x : SeqWindow) (w : Nat) (b p : Seq) : Prop :=
  (x.high - b).toNat < (p - b).toNat ∨ ((x.high - b).toNat < (p - b).toNat + w ∧ seenFlag w x.seen p = false)

section Nodup
variable {n : Nat} (h4 : 4 ≤ n) (h8 : n ≤ 8) {b : Seq} {x : SeqWindow} {s : Seq} (live : x.live = true) (start : StartMode)
  (near : (x.high - b).toNat < 2 ^ 31) (arrival : (s - b).toNat < 2 ^ 31)
include h4 h8 live near arrival

/-- One judgement that does not re-base: a number passed was fresh before and is not fresh after, and no other number becomes fresh. -/
theorem judge_fresh (steady : (x.judge (2 ^ n) start s).2 ≠ .restarted) :
    (x.judge (2 ^ n) start s).1.live = true ∧ ((x.judge (2 ^ n) start s).1.high - b).toNat < 2 ^ 31
      ∧ (∀ p, (x.judge (2 ^ n) start s).1.Fresh (2 ^ n) b p → x.Fresh (2 ^ n) b p)
      ∧ ((x.judge (2 ^ n) start s).2.passes = true → x.Fresh (2 ^ n) b s ∧ ¬ (x.judge (2 ^ n) start s).1.Fresh (2 ^ n) b s) := by
  obtain ⟨low, high, -⟩ := window_bounds h4 h8
  have distance := toInt_sub_of_near arrival near
  by_cases above : 0 < (s - x.high).toInt
  · obtain ⟨d, hd⟩ := Int.eq_ofNat_of_zero_le above.le
    have flags {k : Nat} (hk : k < 2 ^ n) := advance_seen h4 h8 x hd (by omega) hk
    rw [judge_above live _ start s above, hd]
    refine ⟨live, arrival, fun p fresh => ?_, fun _ => ⟨.inl (by omega), ?_⟩⟩
    · obtain higher | ⟨inside, unseen⟩ := fresh
      · exact .inl (by change (s - b).toNat < _ at higher; omega)
      · change (s - b).toNat < _ at inside
        by_cases more : (x.high - b).toNat < (p - b).toNat
        · exact .inl more
        · have place := eq_sub_of_offset (a := s) (b := b) (c := p) (by omega)
          rw [place] at unseen
          have flag := flags (k := (s - b).toNat - (p - b).toNat) (by omega)
          rw [if_neg (by omega), if_neg (by omega), ← place] at flag
          rw [← place] at unseen
          exact .inr ⟨by omega, flag.symm.trans unseen⟩
    · rintro (higher | ⟨-, unseen⟩)
      · exact lt_irrefl _ higher
      · have flag := flags (k := 0) (by omega)
        rw [if_pos rfl, BitVec.sub_zero] at flag
        cases unseen.symm.trans flag
  · by_cases inside : -((2 ^ n : Nat) : Int) < (s - x.high).toInt
    · rw [judge_within live _ start s inside (by omega)]
      cases seen : seenFlag (2 ^ n) x.seen s with
      | true => exact ⟨live, near, fun p fresh => fresh, fun passes => by cases passes⟩
      | false =>
        have flags (p : Seq) := seenFlag_markSeen high (by omega) x.seen s p
        rw [if_neg Bool.false_ne_true]
        refine ⟨live, near, fun p fresh => ?_, fun _ => ⟨.inr ⟨by omega, seen⟩, ?_⟩⟩
        · exact fresh.imp id fun ⟨place, unseen⟩ => ⟨place, (Bool.or_eq_false_iff.1 ((flags p).symm.trans unseen)).1⟩
        · rintro (higher | ⟨-, unseen⟩)
          · change (x.high - b).toNat < _ at higher
            omega
          · have flag := (flags s).symm.trans unseen
            simp at flag
    · rw [judge_below live _ start s (by omega)] at steady ⊢
      by_cases run : x.tooOldRun + 1 < 4
      · rw [if_pos run]
        exact ⟨live, near, fun p fresh => fresh, fun passes => by cases passes⟩
      · rw [if_neg run] at steady
        exact absurd rfl steady

end Nodup

/-- What a window passes from arrivals without a re-basing: each number once, and only numbers fresh before. -/
theorem passedBy_nodup {n : Nat} (h4 : 4 ≤ n) (h8 : n ≤ 8) (start : StartMode) {b : Seq} {arrivals : List Seq} {x : SeqWindow} (live : x.live = true)
    (near : (x.high - b).toNat < 2 ^ 31) (all : ∀ s ∈ arrivals, (s - b).toNat < 2 ^ 31) (steady : (passedBy (2 ^ n) start x arrivals).2 = false) :
    (passedBy (2 ^ n) start x arrivals).1.Nodup ∧ ∀ p ∈ (passedBy (2 ^ n) start x arrivals).1, x.Fresh (2 ^ n) b p := by
  induction arrivals generalizing x with
  | nil => exact ⟨.nil, fun p hp => absurd hp List.not_mem_nil⟩
  | cons s rest ih =>
    obtain ⟨now, later⟩ := Bool.or_eq_false_iff.1 steady
    obtain ⟨live', near', fresh, passed⟩ := judge_fresh h4 h8 live start near (all s List.mem_cons_self) (by simpa using now)
    obtain ⟨nodup, only⟩ := ih live' near' (fun p hp => all p (List.mem_cons_of_mem _ hp)) later
    rw [passedBy]
    dsimp only
    by_cases passes : (x.judge (2 ^ n) start s).2.passes = true
    · obtain ⟨before, after⟩ := passed passes
      rw [if_pos passes]
      refine ⟨List.nodup_cons.2 ⟨fun again => after (only s again), nodup⟩, fun p hp => ?_⟩
      obtain rfl | hp := List.mem_cons.1 hp
      · exact before
      · exact fresh p (only p hp)
    · rw [if_neg passes]
      exact ⟨nodup, fun p hp => fresh p (only p hp)⟩

/-- Settles O51: offsets are counted from the window's lower end. -/
theorem noSequenceIsPassedTwice : Obligations.NoSequenceIsPassedTwice := by
  intro n x start arrivals h4 h8 live seen all steady
  have high := (window_bounds h4 h8).2.1
  refine (passedBy_nodup h4 h8 start live (b := x.high - BitVec.ofNat 32 (2 ^ n - 1)) ?_ all steady).1
  rw [sub_sub_cancel, BitVec.toNat_ofNat]
  omega

end Sys2Proof.Machine
end

section
/-! Choosing among eligible paths: the path of lowest score, the ranking, and the lead (R88 to R91, R95). -/

namespace Sys2Proof.Machine

/-! ### The path of lowest score -/

/-- Whether a slot comes before another by score, ties to the lower slot (R90, R95). -/
def Precedes (score : PathSlot → Nat) (i m : PathSlot) : Prop := score i < score m ∨ (score i = score m ∧ i.val < m.val)

theorem Precedes.trans {score : PathSlot → Nat} {i m k : PathSlot} (h : Precedes score i m) (g : Precedes score m k) : Precedes score i k := by
  unfold Precedes at *
  omega

/-- A slot of a list that no other precedes. -/
def Leads (score : PathSlot → Nat) (l : List PathSlot) (b : PathSlot) : Prop := b ∈ l ∧ ∀ i ∈ l, score b < score i ∨ (score b = score i ∧ b.val ≤ i.val)

theorem Leads.unique {score : PathSlot → Nat} {l : List PathSlot} {b c : PathSlot} (hb : Leads score l b) (hc : Leads score l c) : b = c := by
  have h := hb.2 c hc.1
  have g := hc.2 b hb.1
  exact Fin.ext (by omega)

/-- From a list in slot order, the fold keeps the slot that leads what it has seen. -/
theorem foldl_better_leads (score : PathSlot → Nat) (l seen : List PathSlot) {a : PathSlot} (ha : Leads score seen a) (sorted : (seen ++ l).Pairwise (· < ·)) :
    ∃ b, l.foldl (better score) (some a) = some b ∧ Leads score (seen ++ l) b := by
  induction l generalizing seen a with
  | nil => exact ⟨a, rfl, by rwa [List.append_nil]⟩
  | cons i l ih =>
    have after : ∀ m ∈ seen, m.val < i.val := fun m hm => (List.pairwise_append.1 sorted).2.2 m hm i List.mem_cons_self
    have split : seen ++ i :: l = (seen ++ [i]) ++ l := by simp
    rw [split] at sorted ⊢
    obtain ⟨mem, first⟩ := ha
    have next : ∃ c, better score (some a) i = some c ∧ Leads score (seen ++ [i]) c := by
      unfold better
      by_cases lower : score i < score a
      · refine ⟨i, if_pos lower, by simp, fun m hm => ?_⟩
        obtain hm | hm := List.mem_append.1 hm
        · have := first m hm
          omega
        · rw [List.mem_singleton.1 hm]; omega
      · refine ⟨a, if_neg lower, by simp [mem], fun m hm => ?_⟩
        obtain hm | hm := List.mem_append.1 hm
        · exact first m hm
        · have := after a mem
          rw [List.mem_singleton.1 hm]; omega
    obtain ⟨c, step, leads⟩ := next
    rw [List.foldl_cons, step]
    exact ih _ leads sorted

/-- The path of lowest score in a list in slot order is the one that leads it (R90, R92, R93). -/
theorem lowestBy_eq_some {score : PathSlot → Nat} {l : List PathSlot} (sorted : l.Pairwise (· < ·)) {b : PathSlot} : lowestBy score l = some b ↔ Leads score l b := by
  have leads {b : PathSlot} (h : lowestBy score l = some b) : Leads score l b := by
    cases l with
    | nil => cases h
    | cons i l =>
      obtain ⟨c, e, leads⟩ := foldl_better_leads score l [i] (a := i) ⟨by simp, fun m hm => by rw [List.mem_singleton.1 hm]; omega⟩ sorted
      cases e.symm.trans h
      exact leads
  refine ⟨leads, fun h => ?_⟩
  cases l with
  | nil => exact absurd h.1 List.not_mem_nil
  | cons i l =>
    obtain ⟨c, e, -⟩ := foldl_better_leads score l [i] (a := i) ⟨by simp, fun m hm => by rw [List.mem_singleton.1 hm]; omega⟩ sorted
    have low : lowestBy score (i :: l) = some c := e
    rw [low, (leads low).unique h]

theorem finRange_filter_sorted (p : PathSlot → Bool) : ((List.finRange 32).filter p).Pairwise (· < ·) := (List.pairwise_lt_finRange 32).filter p

theorem mem_eligiblePaths {s : State} {set : FlagSet 32} {i : PathSlot} : i ∈ s.eligiblePaths set ↔ s.eligible set i = true := by
  simp [State.eligiblePaths]

/-- The eligible path of lowest cost (R90). -/
theorem lowestBy_eligible {s : State} {set : FlagSet 32} {score : PathSlot → Nat} {b : PathSlot} (eligible : s.eligible set b = true)
    (least : ∀ i, s.eligible set i = true → score b < score i ∨ (score b = score i ∧ b ≤ i)) : lowestBy score (s.eligiblePaths set) = some b :=
  (lowestBy_eq_some (finRange_filter_sorted _)).2 ⟨mem_eligiblePaths.2 eligible, fun i hi => least i (mem_eligiblePaths.1 hi)⟩

theorem eligiblePaths_eq_nil {s : State} {set : FlagSet 32} (h : ∀ i, s.eligible set i = false) : s.eligiblePaths set = [] :=
  List.filter_eq_nil_iff.2 fun i _ => by simp [h i]

/-! ### The lead (R89 to R91) -/

/-- A change of lead by cost reports FALLBACK or RESTORE when the medium changes (R91). -/
theorem State.changeReason_eq (s : State) (old : Option PathSlot) (b : PathSlot) (base : Reason) :
    s.changeReason old b base = match old with
      | none => base
      | some l =>
        if decide ((s.paths.get l).line.val < 4) && !decide ((s.paths.get b).line.val < 4) then .fallback
        else if !decide ((s.paths.get l).line.val < 4) && decide ((s.paths.get b).line.val < 4) then .restore
        else base := by
  cases old with
  | none => rfl
  | some l =>
    simp only [State.changeReason, State.pathMedium, mediumOf]
    by_cases hl : (s.paths.get l).line.val < 4 <;> by_cases hb : (s.paths.get b).line.val < 4 <;> simp [hl, hb]

/-- What selection settles on without an eligible pin (R90). -/
theorem State.chooseLead_unpinned {s : State} {o : OutFields} (h : ¬ ∃ p, o.pin = some p ∧ s.eligible o.pathSet p = true) (c : Urgency) (b : PathSlot) :
    s.chooseLead o c b = match o.lead with
      | none => (b, .lost)
      | some l =>
        if s.eligible o.pathSet l then
          if s.cost c b + s.settings.switchMargin < s.cost c l then (b, s.changeReason o.lead b .cost) else (l, .cost)
        else (b, s.changeReason o.lead b .lost) := by
  unfold State.chooseLead
  dsimp only
  split
  · cases o.lead <;> rfl
  · next p pin =>
    refine (if_neg fun e => h ⟨p, pin, e⟩).trans ?_
    cases o.lead <;> rfl

/-- Settles O52: the path of lowest cost, then the pin, the lead and the margin. -/
theorem leadsAreChosenByPinAndCost : Obligations.LeadsAreChosenByPinAndCost := by
  intro s o c b
  refine ⟨fun eligible least => lowestBy_eligible eligible least, fun none => by rw [eligiblePaths_eq_nil none]; rfl, fun p pin eligible => ?_,
    fun unpinned lost => ?_, fun l unpinned lead eligible => ⟨fun beyond => ?_, fun within => ?_⟩⟩
  · rw [State.chooseLead, pin]
    exact if_pos eligible
  · rw [State.chooseLead_unpinned unpinned]
    cases lead : o.lead with
    | none => rfl
    | some l =>
      dsimp only
      rw [if_neg (by simp [lost l lead]), State.changeReason_eq]
  · rw [State.chooseLead_unpinned unpinned, lead]
    dsimp only
    rw [if_pos eligible, if_pos beyond, State.changeReason_eq]
  · rw [State.chooseLead_unpinned unpinned, lead]
    dsimp only
    rw [if_pos eligible, if_neg (Nat.not_lt.2 within)]

/-! ### The ranking (R95) -/

/-- A path put into a ranking, in its place: after all that precede it (R95). -/
theorem insertRanked_perm (score : PathSlot → Nat) (i : PathSlot) (l : List PathSlot) : (insertRanked score i l).Perm (i :: l) := by
  induction l with
  | nil => exact .refl _
  | cons k l ih =>
    rw [insertRanked]
    split
    · exact .refl _
    · exact (ih.cons k).trans (.swap ..)

theorem insertRanked_sorted {score : PathSlot → Nat} {i : PathSlot} {l : List PathSlot} (sorted : l.Pairwise (Precedes score)) (above : ∀ k ∈ l, k < i) :
    (insertRanked score i l).Pairwise (Precedes score) := by
  induction l with
  | nil => exact List.pairwise_singleton ..
  | cons k l ih =>
    obtain ⟨first, rest⟩ := List.pairwise_cons.1 sorted
    rw [insertRanked]
    split
    · next lower =>
      refine List.pairwise_cons.2 ⟨fun m hm => ?_, sorted⟩
      obtain rfl | hm := List.mem_cons.1 hm
      · exact .inl lower
      · exact Precedes.trans (.inl lower) (first m hm)
    · next higher =>
      refine List.pairwise_cons.2 ⟨fun m hm => ?_, ih rest fun m hm => above m (List.mem_cons_of_mem _ hm)⟩
      obtain rfl | hm := List.mem_cons.1 ((insertRanked_perm score i l).mem_iff.1 hm)
      · have := Fin.lt_def.1 (above k List.mem_cons_self)
        unfold Precedes
        omega
      · exact first m hm

/-- A ranking of a list in slot order holds its paths, each after those that precede it (R95). -/
theorem foldl_insertRanked (score : PathSlot → Nat) (l acc : List PathSlot) (sorted : acc.Pairwise (Precedes score)) (later : ∀ k ∈ acc, ∀ i ∈ l, k < i)
    (order : l.Pairwise (· < ·)) :
    (l.foldl (fun acc i => insertRanked score i acc) acc).Perm (acc ++ l) ∧ (l.foldl (fun acc i => insertRanked score i acc) acc).Pairwise (Precedes score) := by
  induction l generalizing acc with
  | nil => exact ⟨by rw [List.append_nil]; exact .refl _, sorted⟩
  | cons i l ih =>
    obtain ⟨first, rest⟩ := List.pairwise_cons.1 order
    have perm := insertRanked_perm score i acc
    obtain ⟨all, ranked⟩ := ih (insertRanked score i acc) (insertRanked_sorted sorted fun k hk => later k hk i List.mem_cons_self) (fun k hk m hm => by
      obtain rfl | hk := List.mem_cons.1 (perm.mem_iff.1 hk)
      · exact first m hm
      · exact later k hk m (List.mem_cons_of_mem _ hm)) rest
    exact ⟨all.trans ((perm.append_right l).trans List.perm_middle.symm), ranked⟩

theorem ranked_perm_sorted {score : PathSlot → Nat} {l : List PathSlot} (order : l.Pairwise (· < ·)) : (ranked score l).Perm l ∧ (ranked score l).Pairwise (Precedes score) :=
  foldl_insertRanked score l [] .nil (fun _ h => absurd h List.not_mem_nil) order

/-! ### Eligibility, cost and RANK-READ (R52 to R56, R88, R95) -/

theorem LinePort.usable_iff (p : LinePort) : p.usable = true ↔ p.grade ≠ 0 ∧ p.txEnable = true := by
  simp [LinePort.usable, LinePort.carrier]

/-- A path is eligible by its membership, lifecycle, estimate, weather and line (R88). -/
theorem State.eligible_iff (s : State) (set : FlagSet 32) (i : PathSlot) : s.eligible set i = true ↔
    set.mem i.val = true ∧ (s.paths.get i).life = .inService ∧ (s.paths.get i).est = .valid ∧ (s.paths.get i).weather.state ≠ .faded
      ∧ (s.lines.get (s.paths.get i).line).grade ≠ 0 ∧ (s.lines.get (s.paths.get i).line).txEnable = true := by
  simp only [State.eligible, Bool.and_eq_true, decide_eq_true_eq, LinePort.usable_iff, and_assoc]

/-- The time of a cell, by grade (R52). -/
theorem cellTime_eq : ∀ grade : Fin 8, cellTime grade = [0, 2560, 1707, 1280, 1024, 853, 640, 512][grade.val]! := by decide

theorem Settings.penalty_eq (x : Settings) (w : Weather) : x.penalty w = if w = .marginal ∨ w = .mending then x.marginPenalty else 0 := by
  cases w <;> simp [Settings.penalty]

/-- Settles O19: the ranking of the eligible paths, and the terms of eligibility and cost. -/
theorem rankReadRanksTheEligiblePaths : Obligations.RankReadRanksTheEligiblePaths := by
  refine ⟨fun s k options idle opened outbound => ?_, fun s i => ⟨fun set => s.eligible_iff set i, fun c => ?_⟩⟩
  · obtain ⟨perm, sorted⟩ := ranked_perm_sorted (score := s.cost .normal) (finRange_filter_sorted (s.eligible (s.feeds.get k).out.pathSet))
    refine ⟨s.ranking (s.feeds.get k).out, fun i => perm.mem_iff.trans mem_eligiblePaths, sorted, ?_⟩
    have fields : s.rankBytes (s.feeds.get k).out = [byteOf (s.ranking (s.feeds.get k).out).length]
        ++ (s.ranking (s.feeds.get k).out).flatMap (fun i => [byteOf i.val] ++ beBytes 4 (s.cost .normal i))
        ++ [slotByteOf (s.feeds.get k).out.lead, slotByteOf (s.feeds.get k).out.pin] := by
      simp only [State.rankBytes, optionalSlotByte_eq, beBytes_one]
    rw [← fields]
    refine congrArg Host.Outcome.next (State.request_eq (t := s) (r := done (s.rankBytes (s.feeds.get k).out)) idle ?_)
    rw [State.rankRead, indexOf_byteOf k [options]]
    refine (State.ofLength_self _ [byteOf k.val, options] _).trans ?_
    rw [State.parsed_some, State.rankOf, State.checkFeed, State.taken_feeds, if_pos opened, outbound]
    rfl
  · simp only [State.cost, LinePort.wait, ← cellTime_eq, Settings.penalty_eq]
    cases c <;> rfl

end Sys2Proof.Machine
end

section
/-! Serving and the command port apart: a change of the port that keeps RESETTING as it is moves through the issue of soundings and the frame boundary. -/

namespace Sys2Proof.Machine

section Port
variable (s : State) (c : CommandPort)

/-- The state with another command port. -/
def State.withPort : State := { s with cmp := c }

theorem State.withPort_self : s.withPort s.cmp = s := rfl

theorem State.startSound_withPort (l : Line) (e : SoundEntry) (rest : List SoundEntry) : (s.withPort c).startSound l e rest = (s.startSound l e rest).withPort c := by
  simp only [State.startSound, State.withPort, State.onLine]
  cases s.su.contexts.get e.context <;> rfl

theorem State.startNext_withPort (l : Line) : (s.withPort c).startNext l = (s.startNext l).withPort c := by
  have lines : (s.withPort c).lines = s.lines := rfl
  unfold State.startNext
  rw [lines]
  cases (s.lines.get l).echoes with
  | cons e rest => rfl
  | nil =>
    cases (s.lines.get l).sounds with
    | cons d rest => exact s.startSound_withPort c l d rest
    | nil => cases (s.lines.get l).choose <;> rfl

variable (same : c.engine.resetting = s.resetting)
include same

theorem State.boundary_withPort (l : Line) : (s.withPort c).boundary l = (s.boundary l).withPort c := by
  have resets : (s.withPort c).resetting = s.resetting := same
  have settled : (s.withPort c).onLine l LinePort.settled = (s.onLine l LinePort.settled).withPort c := rfl
  unfold State.boundary
  rw [resets, show (s.withPort c).lines = s.lines from rfl]
  split
  · rfl
  · change (if (((s.withPort c).onLine l LinePort.settled).lines.get l).usable then ((s.withPort c).onLine l LinePort.settled).startNext l else (s.withPort c).onLine l LinePort.settled)
      = (if ((s.onLine l LinePort.settled).lines.get l).usable then (s.onLine l LinePort.settled).startNext l else s.onLine l LinePort.settled).withPort c
    rw [settled, State.startNext_withPort]
    change (if ((s.onLine l LinePort.settled).lines.get l).usable then _ else _) = _
    split <;> rfl

theorem State.issue_withPort (i : PathSlot) (x : ContextId) : (s.withPort c).issue i x = (s.issue i x).withPort c :=
  State.boundary_withPort ((s.onSu fun u => u.issue i x (s.paths.get i) s.micros).onLine (s.paths.get i).line fun l =>
    { l with sounds := l.sounds ++ [⟨x, (s.paths.get i).tag, s.su.nextId⟩] }) c same _

theorem State.servePath_withPort (i : PathSlot) : (s.withPort c).servePath i = (s.servePath i).withPort c := by
  unfold State.servePath
  rw [show (s.withPort c).canIssue i = s.canIssue i from rfl, show (s.withPort c).su = s.su from rfl]
  split
  · cases s.su.freeContext with
    | none => dsimp only; split <;> rfl
    | some x => exact State.issue_withPort s c same i x
  · rfl

omit same in
theorem State.servePath_resetting (i : PathSlot) : (s.servePath i).resetting = s.resetting := by
  rw [State.resetting, (s.servePath_onlySends i).cmp]
  rfl

/-- The issue of due soundings moves past a change of the port (R28). -/
theorem State.serve_withPort : (s.withPort c).serve = s.serve.withPort c := by
  have all (l : List PathSlot) : l.foldl State.servePath (s.withPort c) = (l.foldl State.servePath s).withPort c := by
    induction l generalizing s with
    | nil => rfl
    | cons i l ih =>
      rw [List.foldl_cons, List.foldl_cons, s.servePath_withPort c same]
      exact ih _ (same.trans (s.servePath_resetting i).symm)
  have order : (s.withPort c).serveOrder = s.serveOrder := rfl
  unfold State.serve
  rw [show (s.withPort c).resetting = s.resetting from same, order]
  split
  · rfl
  · exact all _

end Port

/-- A request whose effect ends in the issue of due soundings: its answer stands in the port while they are issued (R165). -/
theorem request_serve {s u : State} {r : Reply} (idle : s.cmp.engine = .idle) {code : Byte} {body : List Byte} {run : State → State × Reply}
    (hr : run (s.taken body) = ((u.withPort (s.taken body).cmp).serve, r)) :
    s.request code body run = (u.withPort (s.answered body code r.result r.fields)).serve := by
  have running : (s.taken body).cmp.engine.resetting = false := by
    change s.cmp.engine.resetting = false
    rw [idle]; rfl
  rw [show (u.withPort (s.taken body).cmp).serve = ({ (u.withPort (s.answered body code r.result r.fields)).serve with cmp := (s.taken body).cmp } : State) from ?_] at hr
  · rw [State.request_eq idle hr]
    have port := (State.serve_onlySends (u.withPort (s.answered body code r.result r.fields))).cmp
    conv_rhs => rw [← State.withPort_self (u.withPort (s.answered body code r.result r.fields)).serve, port]
    rfl
  · exact State.serve_withPort (u.withPort (s.answered body code r.result r.fields)) (s.taken body).cmp running

end Sys2Proof.Machine
end

section
/-! The time commands and the jumps in TIME (R132, R135, R136, R138 to R142). -/

namespace Sys2Proof.Machine

/-! ### The fields of the time commands -/

/-- A word of the whole body, as the number it spells (R171). -/
theorem signed32_field (v : BitVec 32) : signed32 (field (beBytes 4 v.toNat) 0 4) = v.toInt := by
  rw [field_word_alone 4 v (by decide), signed32, BitVec.ofNat_toNat, BitVec.setWidth_eq]

section Fields
variable (s : State)

theorem State.timeSet_eq (mode : Byte) (v : Stamp) : s.timeSet ([mode] ++ beBytes 8 v.toNat) = s.parsed (setModeOf mode.toNat) (s.setTime v) := by
  have value : field ([mode] ++ beBytes 8 v.toNat) 1 8 = v.toNat := (field_cons _ _ 0 8).trans (field_word_alone 8 v (by decide))
  rw [State.timeSet, value, BitVec.ofNat_toNat, BitVec.setWidth_eq, show byteAt ([mode] ++ beBytes 8 v.toNat) 0 = mode.toNat from byteAt_zero mode _]
  exact if_pos (by simp)

theorem State.timeStep_eq (offset : BitVec 32) : s.timeStep (beBytes 4 offset.toNat) = s.stepTime offset.toInt := by
  rw [State.timeStep, signed32_field]
  exact if_pos (by simp)

theorem State.timeSlew_eq (offset : BitVec 32) : s.timeSlew (beBytes 4 offset.toNat) = s.slewTime offset.toInt := by
  rw [State.timeSlew, signed32_field]
  exact if_pos (by simp)

theorem State.timeRate_eq (rate : BitVec 40) : s.timeRate (beBytes 5 rate.toNat) = s.rateTime rate.toNat := by
  rw [State.timeRate, field_word_alone 5 rate (by decide)]
  exact if_pos (by simp)

theorem State.unlessPending_none {s : State} (h : s.tb.pendingSet = none) (act : State × Reply) : s.unlessPending act = act := if_neg (by simp [h])

theorem State.unlessPending_some {s : State} (h : s.tb.pendingSet ≠ none) (act : State × Reply) : s.unlessPending act = s.refusing .pending :=
  if_pos (Option.isSome_iff_ne_none.2 h)

end Fields

/-- An answer is DONE exactly when nothing was brought into range (R170). -/
theorem doneOr_decide {p : Prop} [Decidable p] (fields : List Byte) : doneOr (decide ¬ p) fields = ⟨if p then .done else .adjusted, fields⟩ := by
  unfold doneOr
  by_cases h : p <;> simp [h]

/-! ### Without a jump -/

theorem setModeOf_beyond {mode : Byte} (h : 1 < mode.toNat) : setModeOf mode.toNat = none := by
  unfold setModeOf
  split
  · omega
  · omega
  · rfl

/-- Settles O26: the fields are read back from their bytes, and each command writes the time base alone. -/
theorem timeCommandsWithoutAJump : Obligations.TimeCommandsWithoutAJump := by
  refine ⟨fun s v idle => ?_, fun s mode v idle beyond => ?_, fun s offset idle => ⟨fun free => ?_, fun pending => ⟨?_, ?_⟩⟩, fun s rate idle => ?_⟩
  · exact congrArg Host.Outcome.next (State.request_eq (t := s.onTb (·.setAtPps v s.clock)) (r := done []) idle ((s.taken _).timeSet_eq 1 v))
  · refine congrArg Host.Outcome.next (State.request_refusing idle (((s.taken _).timeSet_eq mode v).trans ?_))
    rw [setModeOf_beyond beyond]
    rfl
  · have same : clampSlew offset.toInt = max (-1000000) (min offset.toInt 1000000) := congrArg _ (min_comm ..)
    rw [← same]
    refine congrArg Host.Outcome.next (State.request_eq (t := s.onTb fun t => { t with slew := clampSlew offset.toInt, slewTicks := 0 })
      (r := ⟨if clampSlew offset.toInt = offset.toInt then .done else .adjusted, signedBytes (clampSlew offset.toInt)⟩) idle
      (((s.taken _).timeSlew_eq offset).trans ((State.unlessPending_none (s := s.taken _) free _).trans ?_)))
    rw [← doneOr_decide]
    rfl
  · exact congrArg Host.Outcome.next (State.request_refusing idle (((s.taken _).timeSlew_eq offset).trans (State.unlessPending_some (s := s.taken _) pending _)))
  · exact congrArg Host.Outcome.next (State.request_refusing idle (((s.taken _).timeStep_eq offset).trans (State.unlessPending_some (s := s.taken _) pending _)))
  · have same : keptStep rate.toNat = max 0x0266666666 (min rate.toNat 0x0299999999) := congrArg _ (min_comm ..)
    rw [← same]
    refine congrArg Host.Outcome.next (State.request_eq (t := s.onTb fun t => { t with step := BitVec.ofNat 40 (keptStep rate.toNat) })
      (r := ⟨if keptStep rate.toNat = rate.toNat then .done else .adjusted, beBytes 5 (keptStep rate.toNat)⟩) idle (((s.taken _).timeRate_eq rate).trans ?_))
    rw [← doneOr_decide]
    rfl

/-! ### Jumps -/

/-- A jump's voiding, before freed contexts are handed on (R142). -/
theorem State.jump_eq (s : State) : s.jump = (afterJump s s.tb s.nu).serve := by
  have contexts : (s.voidContexts fun _ => true).su.contexts = .replicate 16 none := Table.ext_get fun c => by
    rw [State.voidContexts_contexts, Table.get_replicate]
    cases s.su.contexts.get c <;> rfl
  have lines : (s.voidContexts fun _ => true).lines.map LinePort.voidEchoes = s.lines.map fun p => { p with
      sounds := p.sounds.filter fun e => (s.su.contexts.get e.context).isNone
      echoes := p.echoes.map fun e => { e with voided := true } } := Table.ext_get fun l => by
    rw [Table.get_map, Table.get_map, State.voidContexts_lines]
    have free (x : Option Context) : (x.all fun _ => !true) = x.isNone := by cases x <;> rfl
    simp only [LinePort.voidEchoes, free]
  have parts : ({ s.voidContexts fun _ => true with lines := (s.voidContexts fun _ => true).lines.map LinePort.voidEchoes } : State)
      = { s with su := { s.su with contexts := (s.voidContexts fun _ => true).su.contexts }, lines := (s.voidContexts fun _ => true).lines.map LinePort.voidEchoes } := rfl
  rw [State.jump, parts, contexts, lines]
  rfl

/-- TIME jumps with its slew ended and TIME STEPPED raised (R135, R138). -/
theorem State.timeJump_eq (s : State) (tb : TimeBase) :
    s.timeJump tb = (afterJump s { tb with slew := 0, slewTicks := 0 } { s.nu with flags := s.nu.flags.insert 11 }).serve :=
  State.jump_eq _

/-- TIME after a step, as R135 gives it: the offset clamped, and TIME held at either end. -/
theorem TimeBase.stepped_eq (t : TimeBase) (offset : Int) :
    ((t.stepped (clampStep offset) : Nat) : Int) = max 0 (min (t.time.toNat + max (-1000000000) (min offset 1000000000)) (2 ^ 64 - 1)) := by
  have top : (timeMax : Int) = 2 ^ 64 - 1 := rfl
  rw [TimeBase.stepped, clampInt, clampStep, clampInt, top, Int.toNat_of_nonneg (le_max_left _ _), min_comm, min_comm 1000000000]

/-- Settles O25: each jump is the voiding of its state, served with the answer in the port. -/
theorem jumpsMoveTime : Obligations.JumpsMoveTime := by
  refine ⟨fun s v idle => ?_, fun s offset idle free => ?_⟩
  · exact congrArg Host.Outcome.next (request_serve idle (r := done [])
      (u := afterJump s { s.tb with time := v, frac := 0, slew := 0, slewTicks := 0, pendingSet := none } { s.nu with flags := s.nu.flags.insert 11 })
      (((s.taken _).timeSet_eq 0 v).trans (congrArg (·, done []) (State.timeJump_eq _ _))))
  · rw [← TimeBase.stepped_eq]
    refine congrArg Host.Outcome.next (request_serve idle
      (r := ⟨if s.tb.applied offset.toInt = offset.toInt then .done else .adjusted, signedBytes (s.tb.applied offset.toInt)⟩)
      (u := afterJump s { s.tb with time := BitVec.ofInt 64 (s.tb.stepped (clampStep offset.toInt)), slew := 0, slewTicks := 0 } { s.nu with flags := s.nu.flags.insert 11 })
      (((s.taken _).timeStep_eq offset).trans ((State.unlessPending_none (s := s.taken _) free _).trans ?_)))
    rw [← doneOr_decide, BitVec.ofInt_natCast, State.timeJump_eq]
    rfl

/-! ### The PPS edge and the expiry (R139 to R141) -/

/-- An edge taken: the record written, and PPS raised (R140). -/
def State.edgeTaken (s : State) : State := (s.onTb fun t => { t with ppsStamp := t.time, ppsCount := t.ppsCount + 1 }).raisePlain .pps

theorem State.ppsEdge_free {s : State} (on : s.off = false) (free : s.tb.pendingSet = none) : s.ppsEdge = s.edgeTaken := by
  rw [State.ppsEdge, if_neg (by simp [on])]
  dsimp only
  split
  · rfl
  · next x pending => cases free.symm.trans pending

theorem State.ppsEdge_pending {s : State} (on : s.off = false) {x : PendingSet} (pending : s.tb.pendingSet = some x) :
    s.ppsEdge = ((s.edgeTaken.onTb fun t => { t with time := x.value, frac := 0, pendingSet := none }).raisePlain .timeSetDone).jump := by
  rw [State.ppsEdge, if_neg (by simp [on])]
  dsimp only
  split
  · next free => cases pending.symm.trans free
  · next y other =>
    cases pending.symm.trans other
    rfl

/-- Settles O28: the edge by the engine and the pending set, and the expiry by its time. -/
theorem ppsEdgeAndExpiry : Obligations.PpsEdgeAndExpiry := by
  refine ⟨fun s off => congrArg _ (if_pos off), fun s on free => ?_, fun s x on pending => ?_, fun s x pending passed => ?_, fun s early => ?_⟩ <;> refine congrArg Host.Outcome.next ?_
  · exact State.ppsEdge_free on free
  · exact (State.ppsEdge_pending on pending).trans (State.jump_eq { s with
      tb := { s.tb with time := x.value, frac := 0, pendingSet := none, ppsStamp := s.tb.time, ppsCount := s.tb.ppsCount + 1 }
      nu := { s.nu with flags := (s.nu.flags.insert 15).insert 12 } })
  · rw [State.expireSet, pending]
    exact if_pos passed
  · rw [State.expireSet]
    cases pending : s.tb.pendingSet with
    | none => rfl
    | some x => exact if_neg (Nat.not_le.2 (early x pending))

end Sys2Proof.Machine
end

section
/-! Core ticks: TIME, its fraction and the slew remainder over one tick and over many (R131, R136). -/

namespace Sys2Proof.Machine

/-! ### The slew remainder over ticks (R136) -/

section Ticks
variable {t : TimeBase} (h : t.InRange)

theorem TimeBase.corrections_le (t : TimeBase) (n : Nat) : t.corrections n ≤ t.slew.natAbs := Nat.min_le_left _ _

/-- The remainder after ticks, as its sign and its size (R136). -/
theorem TimeBase.slewAfter_natAbs (t : TimeBase) (n : Nat) : (t.slewAfter n).natAbs = t.slew.natAbs - t.corrections n := by
  have le := t.corrections_le n
  unfold TimeBase.slewAfter
  obtain hs | hs | hs := lt_trichotomy t.slew 0
  · rw [Int.sign_eq_neg_one_of_neg hs]; omega
  · rw [hs] at le ⊢; simp
  · rw [Int.sign_eq_one_of_pos hs]; omega

theorem TimeBase.slewAfter_sign (t : TimeBase) (n : Nat) : (t.slewAfter n).sign = if t.slewAfter n = 0 then 0 else t.slew.sign := by
  have le := t.corrections_le n
  split
  · next e => rw [e]; rfl
  · next e =>
    unfold TimeBase.slewAfter at e ⊢
    obtain hs | hs | hs := lt_trichotomy t.slew 0
    · rw [Int.sign_eq_neg_one_of_neg hs] at e ⊢; exact Int.sign_eq_neg_one_of_neg (by omega)
    · rw [hs] at le e; simp at le e
    · rw [Int.sign_eq_one_of_pos hs] at e ⊢; exact Int.sign_eq_one_of_pos (by omega)

theorem TimeBase.slewAfter_eq_zero (t : TimeBase) (n : Nat) : t.slewAfter n = 0 ↔ t.corrections n = t.slew.natAbs := by
  have le := t.corrections_le n
  have size := t.slewAfter_natAbs n
  omega

/-- The corrections of ticks made in two parts (R136). -/
theorem TimeBase.corrections_add (t : TimeBase) (m n : Nat) : t.corrections (m + n) = t.corrections m + (t.ticks m).corrections n := by
  have size := t.slewAfter_natAbs m
  have zero := t.slewAfter_eq_zero m
  change min t.slew.natAbs ((t.slewTicks + (m + n)) / 1000) = _ + min (t.slewAfter m).natAbs (((if t.slewAfter m = 0 then 0 else (t.slewTicks + m) % 1000) + n) / 1000)
  rw [size]
  unfold TimeBase.corrections at *
  split <;> omega

theorem TimeBase.slewAfter_add (t : TimeBase) (m n : Nat) : t.slewAfter (m + n) = (t.ticks m).slewAfter n := by
  change t.slew - t.slew.sign * (t.corrections (m + n) : Nat) = t.slewAfter m - (t.slewAfter m).sign * ((t.ticks m).corrections n : Nat)
  rw [TimeBase.corrections_add, TimeBase.slewAfter_sign]
  split
  · next e =>
    have none : (t.ticks m).corrections n = 0 := by
      have le := (t.ticks m).corrections_le n
      rw [show (t.ticks m).slew = 0 from e] at le
      simpa using le
    rw [none]
    simp [TimeBase.slewAfter]
  · rw [show t.slewAfter m = t.slew - t.slew.sign * (t.corrections m : Nat) from rfl]
    push_cast
    ring

/-- A remainder of 0 stays (R136). -/
theorem TimeBase.slewAfter_of_zero {t : TimeBase} {m : Nat} (e : t.slewAfter m = 0) (n : Nat) : (t.ticks m).slewAfter n = 0 := by
  have size := (t.ticks m).slewAfter_natAbs n
  rw [show (t.ticks m).slew = 0 from e] at size
  omega

include h

/-- Ticks carry at most one correction each (R136). -/
theorem TimeBase.corrections_le_ticks (n : Nat) : t.corrections n ≤ n := by
  obtain ⟨-, -, -, -, ticks, -⟩ := h
  have := Nat.min_le_right t.slew.natAbs ((t.slewTicks + n) / 1000)
  unfold TimeBase.corrections
  omega

/-- What ticks add to TIME and its fraction (R131, R136). -/
theorem TimeBase.sumAfter_eq (n : Nat) : (t.sumAfter n : Int) = t.wide + n * t.stepUnits + t.slew.sign * (t.corrections n * 2 ^ 32 : Nat) ∧ t.wide ≤ t.sumAfter n := by
  have few := TimeBase.corrections_le_ticks h n
  have low : 0x0266666666 ≤ t.stepUnits := BitVec.le_def.1 h.1
  have most : t.corrections n * 2 ^ 32 ≤ n * t.stepUnits := Nat.mul_le_mul few (by omega)
  have sum : (t.sumAfter n : Int) = max (t.wide + n * t.stepUnits + t.slew.sign * (t.corrections n * 2 ^ 32 : Nat)) 0 := by
    unfold TimeBase.sumAfter
    rw [Int.ofNat_toNat]
    push_cast
    rfl
  have grow : (t.wide : Int) ≤ t.wide + n * t.stepUnits + t.slew.sign * (t.corrections n * 2 ^ 32 : Nat) := by
    have big : ((t.corrections n * 2 ^ 32 : Nat) : Int) ≤ n * t.stepUnits := by exact_mod_cast most
    have sign : -1 ≤ t.slew.sign := by
      obtain hs | hs | hs := lt_trichotomy t.slew 0
      · rw [Int.sign_eq_neg_one_of_neg hs]
      · rw [hs]; decide
      · rw [Int.sign_eq_one_of_pos hs]; decide
    nlinarith [Int.natCast_nonneg (t.corrections n * 2 ^ 32)]
  have nonneg := Int.natCast_nonneg t.wide
  rw [max_eq_left (by omega)] at sum
  exact ⟨sum, by omega⟩

/-- The sum of ticks in two parts, up to the turns that TIME held at its maximum takes off (R131). -/
theorem TimeBase.sumAfter_add (m n : Nat) :
    t.sumAfter (m + n) = (t.ticks m).sumAfter n + (t.sumAfter m / 2 ^ 32 - timeMax) * 2 ^ 32 ∧ (t.ticks m).time.toNat = min (t.sumAfter m / 2 ^ 32) timeMax := by
  obtain ⟨whole, -⟩ := TimeBase.sumAfter_eq h (m + n)
  obtain ⟨first, -⟩ := TimeBase.sumAfter_eq h m
  obtain ⟨second, -⟩ := TimeBase.sumAfter_eq (TimeBase.ticks_inRange h m) n
  have sign : (t.ticks m).slew.sign * ((t.ticks m).corrections n : Nat) = t.slew.sign * ((t.ticks m).corrections n : Nat) := by
    rw [show (t.ticks m).slew.sign = (t.slewAfter m).sign from rfl, TimeBase.slewAfter_sign]
    split
    · next e =>
      have le := (t.ticks m).corrections_le n
      rw [show (t.ticks m).slew = 0 from e] at le
      rw [show (t.ticks m).corrections n = 0 by simpa using le]
      simp
    · rfl
  have top : timeMax < 2 ^ 64 := by decide
  have time : (t.ticks m).time.toNat = min (t.sumAfter m / 2 ^ 32) timeMax := by
    change (BitVec.ofNat 64 _).toNat = _
    rw [BitVec.toNat_ofNat, Nat.mod_eq_of_lt (by omega)]
  have frac : (t.ticks m).frac.toNat = t.sumAfter m % 2 ^ 32 := by
    change (BitVec.ofNat 32 _).toNat = _
    rw [BitVec.toNat_ofNat, Nat.mod_mod]
  have wide : (t.ticks m).wide = min (t.sumAfter m / 2 ^ 32) timeMax * 2 ^ 32 + t.sumAfter m % 2 ^ 32 := by rw [TimeBase.wide, time, frac]
  refine ⟨?_, time⟩
  have units : (t.ticks m).stepUnits = t.stepUnits := rfl
  rw [units, wide] at second
  rw [TimeBase.corrections_add] at whole
  push_cast at whole first second sign ⊢
  have : (t.sumAfter (m + n) : Int) = (t.ticks m).sumAfter n + (t.sumAfter m / 2 ^ 32 - timeMax : Nat) * 2 ^ 32 := by
    have split := Nat.div_add_mod (t.sumAfter m) (2 ^ 32)
    have held : min (t.sumAfter m / 2 ^ 32) timeMax + (t.sumAfter m / 2 ^ 32 - timeMax) = t.sumAfter m / 2 ^ 32 := by omega
    zify at split held
    norm_num only at split held ⊢
    rw [whole, second]
    linear_combination (-first) - split - (4294967296 : Int) * held - (4294967296 : Int) * sign
  exact_mod_cast this

/-- Ticks in two parts (R131, R136): where TIME was held at its maximum it stays there, and the fraction counts on. -/
theorem TimeBase.ticks_add (m n : Nat) : t.ticks (m + n) = (t.ticks m).ticks n := by
  obtain ⟨sum, held⟩ := TimeBase.sumAfter_add h m n
  obtain ⟨-, grows⟩ := TimeBase.sumAfter_eq (TimeBase.ticks_inRange h m) n
  have low : (t.ticks m).time.toNat * 2 ^ 32 ≤ (t.ticks m).sumAfter n := (Nat.le_add_right _ _).trans grows
  have slew := TimeBase.slewAfter_add t m n
  have time : min (t.sumAfter (m + n) / 2 ^ 32) timeMax = min ((t.ticks m).sumAfter n / 2 ^ 32) timeMax := by omega
  have frac : t.sumAfter (m + n) % 2 ^ 32 = (t.ticks m).sumAfter n % 2 ^ 32 := by omega
  have ticks : (t.slewTicks + (m + n)) % 1000 = ((t.slewTicks + m) % 1000 + n) % 1000 := by omega
  have counted : (if t.slewAfter (m + n) = 0 then 0 else (t.slewTicks + (m + n)) % 1000)
      = if (t.ticks m).slewAfter n = 0 then 0 else ((t.ticks m).slewTicks + n) % 1000 := by
    rw [slew]
    split
    · rfl
    · next left =>
      have going : t.slewAfter m ≠ 0 := fun e => left (TimeBase.slewAfter_of_zero e n)
      rw [show (t.ticks m).slewTicks = (t.slewTicks + m) % 1000 from if_neg going]
      exact ticks
  change TimeBase.mk _ _ _ _ _ _ _ _ = TimeBase.mk _ _ _ _ _ _ _ _
  rw [TimeBase.mk.injEq]
  exact ⟨congrArg _ time, congrArg _ frac, rfl, slew, counted, rfl, rfl, rfl⟩

/-- TIME does not fall over ticks (R131). -/
theorem TimeBase.ticks_time (n : Nat) : t.time.toNat ≤ (t.ticks n).time.toNat := by
  obtain ⟨-, held⟩ := TimeBase.sumAfter_add h n 0
  obtain ⟨-, grows⟩ := TimeBase.sumAfter_eq h n
  have low : t.time.toNat * 2 ^ 32 ≤ t.sumAfter n := (Nat.le_add_right _ _).trans grows
  have top : t.time.toNat ≤ timeMax := Nat.le_sub_one_of_lt t.time.isLt
  omega

/-- One tick corrects on the 1,000th tick of a slew (R136). -/
theorem TimeBase.corrections_one : t.corrections 1 = if t.slewTicks = 999 ∧ t.slew ≠ 0 then 1 else 0 := by
  obtain ⟨-, -, -, -, ticks, -⟩ := h
  unfold TimeBase.corrections
  split <;> omega

end Ticks

/-- A remainder reaches 0 in one of two parts at most (R136). -/
theorem TimeBase.slewEnds_add (t : TimeBase) (m n : Nat) : t.slewEnds (m + n) = (t.slewEnds m || (t.ticks m).slewEnds n) ∧ (t.slewEnds m = true → (t.ticks m).slewEnds n = false) := by
  have slew := t.slewAfter_add m n
  have none : t.slewAfter m = 0 → (t.ticks m).slewEnds n = false := fun e => by simp [TimeBase.slewEnds, show (t.ticks m).slew = 0 from e]
  refine ⟨?_, fun e => none (by simpa [TimeBase.slewEnds] using (Bool.and_eq_true_iff.1 e).2)⟩
  by_cases e : t.slewAfter m = 0
  · rw [none e, TimeBase.slewEnds, slew, TimeBase.slewAfter_of_zero e n, TimeBase.slewEnds, e, Bool.or_false]
  · have start : t.slew ≠ 0 := fun z => e (by
      have size := t.slewAfter_natAbs m
      omega)
    simp [TimeBase.slewEnds, slew, e, start, show (t.ticks m).slew = t.slewAfter m from rfl]

/-! ### Words of a request -/

/-- Bytes are those of the number they spell (R171). -/
theorem beBytes_beValue (l : List Byte) : beBytes l.length (beValue l) = l := by
  induction l using List.reverseRecOn with
  | nil => rfl
  | append_singleton l x ih =>
    have value : beValue (l ++ [x]) = beValue l * 256 + x.toNat := by simp [beValue]
    have high : (beValue l * 256 + x.toNat) / 256 = beValue l := by have := x.isLt; omega
    have low : BitVec.ofNat 8 (beValue l * 256 + x.toNat) = x := BitVec.eq_of_toNat_eq (by have := x.isLt; simp; omega)
    rw [List.length_append, List.length_singleton, beBytes, value, high, low, ih]

/-- Bytes of a word's length spell a word. -/
theorem word_of_length {w n : Nat} (wide : 256 ^ n ≤ 2 ^ w) {body : List Byte} (h : body.length = n) : ∃ v : BitVec w, body = beBytes n v.toNat := by
  have small : beValue body < 256 ^ n := by
    rw [← h, ← beBytes_beValue body, beValue_beBytes, length_beBytes]
    exact Nat.mod_lt _ (by positivity)
  refine ⟨BitVec.ofNat w (beValue body), ?_⟩
  rw [BitVec.toNat_ofNat, Nat.mod_eq_of_lt (small.trans_le wide), ← h, beBytes_beValue]

/-! ### The rows of the core clock -/

section Rows
variable {s : State}

theorem State.tick_off (off : s.off = true) (n : Nat) : s.tick n = s := if_pos off

/-- Ticks outside hardware reset and initialisation (R131, R136). -/
theorem State.tick_on (on : s.off = false) (n : Nat) :
    s.tick n = { s with clock := s.clock + n, tb := s.tb.ticks n, nu := if s.tb.slewEnds n = true then s.nu.raisePlain .slewDone else s.nu } := by
  refine (if_neg (by simp [on])).trans ?_
  dsimp only
  split <;> rfl

/-- Ticks in two parts (log 7). -/
theorem State.tick_add (h : s.tb.InRange) (m n : Nat) : s.tick (m + n) = (s.tick m).tick n := by
  cases on : s.off with
  | true => rw [State.tick_off on, State.tick_off on, State.tick_off on]
  | false =>
    have after : (s.tick m).off = false := by rw [State.tick_on on]; exact on
    rw [State.tick_on after, State.tick_on on, State.tick_on on, TimeBase.ticks_add h, Nat.add_assoc]
    obtain ⟨either, once⟩ := s.tb.slewEnds_add m n
    dsimp only
    rw [either]
    cases first : s.tb.slewEnds m with
    | true => rw [once first]; rfl
    | false => rfl

/-- One core tick (R131, R136). -/
theorem TimeBase.ticks_one {t : TimeBase} (h : t.InRange) : t.ticks 1 =
    let turn : Int := if t.slewTicks = 999 ∧ t.slew ≠ 0 then t.slew.sign else 0
    let sum : Nat := ((t.time.toNat * 2 ^ 32 + t.frac.toNat + t.step.toNat : Nat) + turn * 2 ^ 32 : Int).toNat
    { t with
      time := BitVec.ofNat 64 (min (sum / 2 ^ 32) (2 ^ 64 - 1))
      frac := BitVec.ofNat 32 sum
      slew := t.slew - turn
      slewTicks := if t.slew = 0 ∨ t.slewTicks = 999 then 0 else t.slewTicks + 1 } := by
  have once := TimeBase.corrections_one h
  obtain ⟨-, -, -, -, ticks, zero⟩ := h
  have turn : t.slew.sign * (t.corrections 1 : Nat) = if t.slewTicks = 999 ∧ t.slew ≠ 0 then t.slew.sign else 0 := by
    rw [once]
    split <;> simp
  have sum : t.sumAfter 1
      = ((t.time.toNat * 2 ^ 32 + t.frac.toNat + t.step.toNat : Nat) + (if t.slewTicks = 999 ∧ t.slew ≠ 0 then t.slew.sign else 0) * 2 ^ 32 : Int).toNat := by
    rw [← turn, TimeBase.sumAfter, Nat.one_mul, Nat.cast_mul, mul_assoc]
    rfl
  have counted : (if t.slewAfter 1 = 0 then 0 else (t.slewTicks + 1) % 1000) = if t.slew = 0 ∨ t.slewTicks = 999 then 0 else t.slewTicks + 1 := by
    have gone := t.slewAfter_eq_zero 1
    rw [once] at gone
    by_cases turns : t.slewTicks = 999 ∧ t.slew ≠ 0
    · rw [if_pos (Or.inr turns.1), turns.1, ite_self]
    · rw [if_neg turns] at gone
      split <;> split <;> omega
  change TimeBase.mk _ _ _ _ _ _ _ _ = TimeBase.mk _ _ _ _ _ _ _ _
  rw [TimeBase.mk.injEq, sum, counted, TimeBase.slewAfter, turn]
  exact ⟨rfl, BitVec.eq_of_toNat_eq (by simp), rfl, rfl, rfl, rfl, rfl, rfl⟩

/-- Settles O27: one tick by its correction, and ticks in two parts by the sum they make. -/
theorem coreTickAdvancesTime : Obligations.CoreTickAdvancesTime := by
  refine ⟨fun s off => congrArg _ (State.tick_off off 1), fun s on h => ?_, fun s h => ?_, fun s m n h => ⟨_, _, rfl, rfl, congrArg _ (State.tick_add h m n)⟩⟩
  · refine congrArg Host.Outcome.next ((State.tick_on on 1).trans ?_)
    rw [TimeBase.ticks_one h]
    have ends : s.tb.slewEnds 1 = true ↔ (s.tb.slew ≠ 0 ∧ s.tb.slew = if s.tb.slewTicks = 999 ∧ s.tb.slew ≠ 0 then s.tb.slew.sign else 0) := by
      have after : s.tb.slewAfter 1 = _ := congrArg TimeBase.slew (TimeBase.ticks_one h)
      simp [TimeBase.slewEnds, after, sub_eq_zero]
    simp only [ends]
    rfl
  · obtain ⟨-, -, -, -, ticks, -⟩ := h
    have due : s.tb.correctionDue = true ↔ s.tb.slew ≠ 0 ∧ s.tb.slewTicks = 999 := by
      simp only [TimeBase.correctionDue, Bool.and_eq_true, decide_eq_true_eq]
      omega
    change Host.Outcome.next (if s.tb.correctionDue = true then s.tick 1 else s) = _
    simp only [due]
    split <;> rfl

/-! ### TIME never decreases (R131) -/

/-- A state whose TIME is not below another's. -/
def State.NotBefore (s t : State) : Prop := s.tb.time.toNat ≤ t.tb.time.toNat

theorem State.NotBefore.of_tb {s t : State} (h : t.tb = s.tb) : s.NotBefore t := by rw [State.NotBefore, h]

theorem State.NotBefore.tick (h : s.tb.InRange) (n : Nat) : s.NotBefore (s.tick n) := by
  cases on : s.off with
  | true => rw [State.tick_off on]; exact .of_tb rfl
  | false => rw [State.tick_on on]; exact TimeBase.ticks_time h n

/-- A request leaves TIME as what it runs leaves it. -/
theorem State.NotBefore.request {code : Byte} {body : List Byte} {run : State → State × Reply} (h : (s.taken body).NotBefore (run (s.taken body)).1) :
    s.NotBefore (s.request code body run) := by
  by_cases idle : s.cmp.engine = .idle
  · rw [State.request_of_idle idle]; exact h
  · rw [State.request_of_busy idle]; exact .of_tb rfl

/-- An edge with nothing pending leaves TIME (R140). -/
theorem State.NotBefore.ppsEdge (free : s.tb.pendingSet = none) : s.NotBefore s.ppsEdge := by
  cases on : s.off with
  | true => rw [State.ppsEdge, if_pos on]; exact .of_tb rfl
  | false => rw [State.ppsEdge_free on free]; exact Nat.le_refl _

theorem State.NotBefore.expireSet (s : State) : s.NotBefore s.expireSet := by
  unfold State.expireSet
  split
  · exact .of_tb rfl
  · split
    · exact Nat.le_refl _
    · exact .of_tb rfl

theorem State.NotBefore.unlessPending {act : State × Reply} (h : s.NotBefore act.1) : s.NotBefore (s.unlessPending act).1 := by
  unfold State.unlessPending
  split
  · exact .of_tb rfl
  · exact h

theorem State.NotBefore.timeSlew (s : State) (body : List Byte) : s.NotBefore (s.timeSlew body).1 := by
  by_cases length : body.length = 4
  · rw [State.timeSlew, ← length, State.ofLength_self]
    exact .unlessPending (Nat.le_refl _)
  · rw [State.timeSlew, State.ofLength_ne _ length]
    exact .of_tb rfl

theorem State.NotBefore.timeRate (s : State) (body : List Byte) : s.NotBefore (s.timeRate body).1 := by
  by_cases length : body.length = 5
  · rw [State.timeRate, ← length, State.ofLength_self]
    exact Nat.le_refl _
  · rw [State.timeRate, State.ofLength_ne _ length]
    exact .of_tb rfl

/-- A step forward does not take TIME back: it is held at the end of the range (R135). -/
theorem TimeBase.stepped_le (t : TimeBase) {offset : Int} (forward : 0 ≤ offset) : t.time.toNat ≤ t.stepped (clampStep offset) ∧ t.stepped (clampStep offset) < 2 ^ 64 := by
  have value := t.stepped_eq offset
  have low := t.time.isLt
  omega

theorem State.NotBefore.timeStep (s : State) (body : List Byte) (forward : ∀ offset : BitVec 32, body = beBytes 4 offset.toNat → 0 ≤ offset.toInt) :
    s.NotBefore (s.timeStep body).1 := by
  by_cases length : body.length = 4
  · obtain ⟨offset, spelled⟩ : ∃ offset : BitVec 32, body = beBytes 4 offset.toNat := word_of_length (by decide) length
    have later := s.tb.stepped_le (forward offset spelled)
    rw [spelled, State.timeStep_eq]
    refine .unlessPending ?_
    have kept : (s.timeJump (s.tb.step1 offset.toInt)).tb = (s.tb.step1 offset.toInt).endSlew := (State.Keeps.jump _).time
    change s.NotBefore (s.timeJump (s.tb.step1 offset.toInt))
    rw [State.NotBefore, kept]
    change _ ≤ (BitVec.ofNat 64 _).toNat
    rw [BitVec.toNat_ofNat, Nat.mod_eq_of_lt later.2]
    exact later.1
  · rw [State.timeStep, State.ofLength_ne _ length]
    exact .of_tb rfl

end Rows

/-- A request of the time base but TIME-SET, a TIME-STEP only forward, does not take TIME back. -/
theorem State.NotBefore.unknownCommand (s : State) {code : Byte} (timed : code ∈ timeCodes) (body : List Byte) (unset : code ≠ 0x41)
    (forward : ∀ offset : BitVec 32, code = 0x42 → body = beBytes 4 offset.toNat → 0 ≤ offset.toInt) : s.NotBefore (s.transaction code body) := by
  simp only [timeCodes, List.mem_cons, List.not_mem_nil, or_false] at timed
  obtain rfl | rfl | rfl | rfl := timed
  · exact absurd rfl unset
  · exact .request (.timeStep _ body fun offset => forward offset rfl)
  · exact .request (.timeSlew _ body)
  · exact .request (.timeRate _ body)

/-- Settles O29: a command of the time base by its own lemma; every other keeps the time base. -/
theorem timeNeverDecreases : Obligations.TimeNeverDecreases := by
  intro s t c range run unset edge on forward
  cases steady : movesTime c with
  | false => exact State.NotBefore.of_tb (exec_keeps steady run).time
  | true =>
    cases c
    case coreTick n => cases run; exact State.NotBefore.tick range n
    case slewCorrection =>
      cases run
      change s.NotBefore (if _ then _ else _)
      split
      · exact .tick range 1
      · exact .of_tb rfl
    case ppsEdge => cases run; exact State.NotBefore.ppsEdge (edge rfl)
    case timeSetExpiry => cases run; exact State.NotBefore.expireSet s
    case timeSetNow body => exact absurd rfl (unset body).1
    case timeSetAtPps body => exact absurd rfl (unset body).2.1
    case timeStep body => cases run; exact State.NotBefore.request (.timeStep _ body fun offset => forward body offset (.inl rfl))
    case timeSlew body => cases run; exact State.NotBefore.request (.timeSlew _ body)
    case timeRate body => cases run; exact State.NotBefore.request (.timeRate _ body)
    case hardwareReset level => exact absurd rfl (on level)
    case unknownCommand code body =>
      cases run
      refine State.NotBefore.unknownCommand s (by simpa [movesTime] using steady) body (fun e => (unset body).2.2 (e ▸ rfl)) fun offset e => ?_
      exact forward body offset (.inr (e ▸ rfl))
    all_goals cases steady

end Sys2Proof.Machine
end

section
/-! The path commands: their operand forms read back, PATH-ADD, PATH-SET, the lifecycle commands, and their refusals (R3 to R5, R8, R9, R11, R16). -/

namespace Sys2Proof.Machine

/-! ### Values and choices of a request (R170, R171) -/

theorem clampNat_ne_iff {lo hi v : Nat} (le : lo ≤ hi) : clampNat lo hi v ≠ v ↔ v < lo ∨ hi < v := by unfold clampNat; omega

theorem clampInt_ne_iff {lo hi v : Int} (le : lo ≤ hi) : clampInt lo hi v ≠ v ↔ v < lo ∨ hi < v := by unfold clampInt; omega

theorem clampNominal_ne {v : Nat} : clampNominal v ≠ v ↔ 20000000 < v := by rw [clampNominal, clampNat_ne_iff (by decide), Config.maxDelay]; omega

theorem clampAsymmetry_ne {v : Int} : clampAsymmetry v ≠ v ↔ v < -1000000 ∨ 1000000 < v := clampInt_ne_iff (by decide)

theorem clampShift_ne {v : Nat} : clampShift v ≠ v ↔ 7 < v := by rw [clampShift, clampNat_ne_iff (by decide)]; omega

theorem clampSpike_ne {v : Nat} : clampSpike v ≠ v ↔ v < 1000 ∨ 1000000 < v := clampNat_ne_iff (by decide)

theorem clampInterval_ne {v : Nat} : clampInterval v ≠ v ↔ v < 1 ∨ 1000 < v := clampNat_ne_iff (by decide)

theorem clampTimeout_ne {v : Nat} : clampTimeout v ≠ v ↔ 5 < v := by rw [clampTimeout, clampNat_ne_iff (by decide)]; omega

theorem clampNat_zero (hi v : Nat) : clampNat 0 hi v = min v hi := by unfold clampNat; omega

/-- A field behind its presence bit, kept in its range or left (R16). -/
theorem keptValue_carried {α : Type} (clamp : α → α) (presence : Byte) (k : Nat) (v old : α) :
    keptValue clamp (carriedValue presence.toNat k v) old = if presence.getLsbD k = true then clamp v else old := by
  rw [carriedValue, BitVec.testBit_toNat]
  split <;> rfl

theorem wasClamped_carried {α : Type} [DecidableEq α] (clamp : α → α) (presence : Byte) (k : Nat) (v : α) :
    wasClamped clamp (carriedValue presence.toNat k v) = true ↔ presence.getLsbD k = true ∧ clamp v ≠ v := by
  rw [carriedValue, BitVec.testBit_toNat]
  split
  · next carried => simp [wasClamped, carried]
  · next absent => simp [wasClamped, absent]

theorem doneOr_eq {a : Bool} {p : Prop} [Decidable p] (h : a = true ↔ p) (fields : List Byte) : doneOr a fields = ⟨if p then .adjusted else .done, fields⟩ := by
  rw [doneOr, if_congr h rfl rfl]

/-- A request whose form is spelled goes on with it. -/
theorem State.parsed_of {α : Type} {s : State} {form : Option α} {x : α} (h : form = some x) (act : α → State × Reply) : s.parsed form act = act x := by
  rw [h, State.parsed_some]

theorem slotChoice_any (n : Nat) : slotChoice n (0xFF : Byte).toNat = some .any := if_pos rfl

theorem slotChoice_named {n : Nat} (i : Fin n) (h : n ≤ 255) : slotChoice n (byteOf i.val).toNat = some (.named i) := by
  rw [toNat_byteOf_fin i (by omega), slotChoice, if_neg (by omega), indexOf_fin]
  rfl

theorem slotChoice_beyond {n : Nat} {choice : Byte} (beyond : n ≤ choice.toNat) (named : choice ≠ 0xFF) : slotChoice n choice.toNat = none := by
  rw [slotChoice, if_neg fun e : choice.toNat = 255 => named (BitVec.eq_of_toNat_eq e), indexOf_ge beyond]
  rfl

/-- The lowest slot that holds a property is the one below which none does. -/
theorem Table.lowest_eq {α : Type} {n : Nat} {t : Table α n} {p : Fin n → α → Bool} {i : Fin n} (holds : p i (t.get i) = true) (below : ∀ m, m < i → p m (t.get m) = false) :
    t.lowest p = some i := by
  cases found : t.lowest p with
  | none => exact absurd (Table.lowest_none.1 found i) (by simp [holds])
  | some k =>
    obtain ⟨atK, least⟩ := Table.lowest_some found
    obtain less | rfl | more := lt_trichotomy k i
    · simp [below k less] at atK
    · rfl
    · simp [least i more] at holds

/-! ### PATH-ADD (R4, R5) -/

/-- The tuning fields in the bytes of PATH-ADD behind its tag (R4). -/
def addTuning (rest : List Byte) : TuningRequest :=
  { nominal := some (field rest 0 4)
    asymmetry := carriedValue (byteAt rest 4) 0 (signed32 (field rest 5 4))
    shift := carriedValue (byteAt rest 4) 1 (byteAt rest 9)
    spike := carriedValue (byteAt rest 4) 2 (field rest 10 4)
    interval := carriedValue (byteAt rest 4) 3 (field rest 14 2)
    timeout := carriedValue (byteAt rest 4) 4 (byteAt rest 16) }

/-- PATH-ADD's form from its slot, line and tag (R4). -/
theorem parsePathAdd_eq {w : Nat} (choice line : Byte) (tag : BitVec w) {rest : List Byte} (wide : 2 ^ w ≤ 256 ^ 2) (length : rest.length = 17) :
    parsePathAdd ([choice, line] ++ beBytes 2 tag.toNat ++ rest) = (do
      let slot ← slotChoice 32 choice.toNat
      let line ← indexOf 6 line.toNat
      let tag ← tagOf tag.toNat
      pure ⟨slot, line, tag, addTuning rest⟩) := by
  rw [parsePathAdd, if_neg (by simp [length])]
  simp only [addTuning, byteAt, List.cons_append, List.nil_append, field_cons, field_cons_zero_one, field_behind, field_word 2 tag rest wide,
    Nat.reduceSub, Nat.reduceLeDiff, Nat.le_refl]

/-- The value of four bytes as a signed number (R171). -/
theorem signed32_toNat (v : BitVec 32) : signed32 v.toNat = v.toInt := by rw [signed32, BitVec.ofNat_toNat, BitVec.setWidth_eq]

section Tuning
variable (nominal : BitVec 32) (presence : Byte) (asymmetry : BitVec 32) (k : Byte) (spike : BitVec 32) (interval : BitVec 16) (timeout : Byte)

/-- The bytes of PATH-ADD behind its tag (11.5). -/
def addTuningBytes : List Byte :=
  beBytes 4 nominal.toNat ++ [presence] ++ beBytes 4 asymmetry.toNat ++ [k] ++ beBytes 4 spike.toNat ++ beBytes 2 interval.toNat ++ [timeout]

theorem pathAddBytes_eq (choice : Byte) (line : Line) (tag : BitVec 12) :
    pathAddBytes choice line tag nominal presence asymmetry k spike interval timeout
      = [choice, byteOf line.val] ++ beBytes 2 tag.toNat ++ addTuningBytes nominal presence asymmetry k spike interval timeout := by
  simp only [pathAddBytes, addTuningBytes, List.append_assoc]

theorem addTuning_eq : addTuning (addTuningBytes nominal presence asymmetry k spike interval timeout) =
    { nominal := some nominal.toNat
      asymmetry := carriedValue presence.toNat 0 asymmetry.toInt
      shift := carriedValue presence.toNat 1 k.toNat
      spike := carriedValue presence.toNat 2 spike.toNat
      interval := carriedValue presence.toNat 3 interval.toNat
      timeout := carriedValue presence.toNat 4 timeout.toNat } := by
  simp only [addTuning, addTuningBytes, byteAt, List.append_assoc, List.cons_append, List.nil_append, field_cons, field_cons_zero_one, field_behind,
    Nat.reduceSub, Nat.reduceLeDiff, Nat.le_refl, field_word 4 nominal _ (by decide), field_word 4 asymmetry _ (by decide), field_word 4 spike _ (by decide),
    field_word 2 interval _ (by decide), signed32_toNat]

/-- The tuning fields of a new path (R4). -/
theorem addTuning_kept : (addTuning (addTuningBytes nominal presence asymmetry k spike interval timeout)).kept .defaults =
    { nominal := min nominal.toNat 20000000
      asymmetry := if presence.getLsbD 0 then max (-1000000) (min asymmetry.toInt 1000000) else 0
      shift := if presence.getLsbD 1 then min k.toNat 7 else 3
      spike := if presence.getLsbD 2 then max 1000 (min spike.toNat 1000000) else 50000
      interval := if presence.getLsbD 3 then max 1 (min interval.toNat 1000) else 20
      timeout := if presence.getLsbD 4 then min timeout.toNat 5 else 0 } := by
  rw [addTuning_eq]
  simp only [TuningRequest.kept, keptValue_carried, clampNominal, clampShift, clampTimeout, clampNat_zero, min_comm asymmetry.toInt, min_comm spike.toNat, min_comm interval.toNat]
  rw [keptValue, Option.map_some, Option.getD_some, clampNat_zero]
  rfl

theorem addTuning_adjusted : (addTuning (addTuningBytes nominal presence asymmetry k spike interval timeout)).adjusted = true ↔
    20000000 < nominal.toNat
      ∨ (presence.getLsbD 0 = true ∧ (asymmetry.toInt < -1000000 ∨ 1000000 < asymmetry.toInt))
      ∨ (presence.getLsbD 1 = true ∧ 7 < k.toNat)
      ∨ (presence.getLsbD 2 = true ∧ (spike.toNat < 1000 ∨ 1000000 < spike.toNat))
      ∨ (presence.getLsbD 3 = true ∧ (interval.toNat < 1 ∨ 1000 < interval.toNat))
      ∨ (presence.getLsbD 4 = true ∧ 5 < timeout.toNat) := by
  rw [addTuning_eq]
  have nominalMoved : wasClamped clampNominal (some nominal.toNat) = true ↔ 20000000 < nominal.toNat := by
    simp [wasClamped, clampNominal_ne]
  simp only [TuningRequest.adjusted, Bool.or_eq_true, nominalMoved, wasClamped_carried, clampAsymmetry_ne, clampShift_ne, clampSpike_ne, clampInterval_ne,
    clampTimeout_ne, or_assoc]

end Tuning

section Add
variable {s : State}

/-- PATH-ADD of a free identity, with its slot found (R4, R5). -/
theorem State.pathAdd_ok {r : PathAddRequest} {i : PathSlot} (free : s.findPath r.line r.tag = none) (found : s.slotForPath r.slot = .ok i) :
    s.pathAdd r = (s.addPath i r, doneOr r.tuning.adjusted (beBytes 1 i.val)) := by
  unfold State.pathAdd
  rw [free, found]
  rfl

theorem State.pathAdd_refused {r : PathAddRequest} {e : Result} (free : s.findPath r.line r.tag = none) (refused : s.slotForPath r.slot = .error e) :
    s.pathAdd r = s.refusing e := by
  unfold State.pathAdd
  rw [free, refused]
  rfl

theorem State.pathAdd_held {r : PathAddRequest} (held : s.findPath r.line r.tag ≠ none) : s.pathAdd r = s.refusing .inUse :=
  if_pos (Option.isSome_iff_ne_none.2 held)

theorem State.findPath_free {line : Line} {tag : BitVec 12} (free : ∀ m : PathSlot, (s.paths.get m).life ≠ .vacant → ¬ ((s.paths.get m).line = line ∧ (s.paths.get m).tag = tag)) :
    s.findPath line tag = none :=
  State.findPath_none.2 fun m => Bool.eq_false_iff.2 fun holds => by
    obtain ⟨live, identity⟩ := Path.holds_iff.1 holds
    exact free m live identity

theorem State.slotForPath_named {i : PathSlot} (vacant : (s.paths.get i).life = .vacant) : s.slotForPath (.named i) = .ok i := if_pos vacant

theorem State.slotForPath_any {i : PathSlot} (vacant : (s.paths.get i).life = .vacant) (below : ∀ m : PathSlot, m < i → (s.paths.get m).life ≠ .vacant) :
    s.slotForPath .any = .ok i := by
  unfold State.slotForPath
  rw [Table.lowest_eq (i := i) (by simp [vacant]) fun m less => by simp [below m less]]

theorem State.slotForPath_full (full : ∀ m : PathSlot, (s.paths.get m).life ≠ .vacant) : s.slotForPath .any = .error .noSlot := by
  unfold State.slotForPath
  rw [Table.lowest_none.2 fun m => by simp [full m]]

end Add

theorem tagOf_toNat (tag : BitVec 12) : tagOf tag.toNat = some tag := by
  rw [tagOf, if_pos (by omega), BitVec.ofNat_toNat, BitVec.setWidth_eq]

/-- Settles O8: the form is read back, and the slot is the one named or the lowest vacant one. -/
theorem pathAddEntersTrial : Obligations.PathAddEntersTrial := by
  intro s i choice line tag nominal presence asymmetry k spike interval timeout idle free vacant chosen
  rw [pathAddBytes_eq]
  have slot : ∃ c, slotChoice 32 choice.toNat = some c ∧ s.slotForPath c = .ok i := by
    obtain rfl | ⟨rfl, below⟩ := chosen
    · exact ⟨_, slotChoice_named i (by decide), State.slotForPath_named vacant⟩
    · exact ⟨_, slotChoice_any 32, State.slotForPath_any vacant below⟩
  obtain ⟨c, spelled, found⟩ := slot
  have form : parsePathAdd ([choice, byteOf line.val] ++ beBytes 2 tag.toNat ++ addTuningBytes nominal presence asymmetry k spike interval timeout)
      = some ⟨c, line, tag, addTuning (addTuningBytes nominal presence asymmetry k spike interval timeout)⟩ := by
    rw [parsePathAdd_eq choice _ tag (by decide) (by simp [addTuningBytes]), spelled, toNat_byteOf_fin line, indexOf_fin, tagOf_toNat]
    rfl
  generalize body : [choice, byteOf line.val] ++ beBytes 2 tag.toNat ++ addTuningBytes nominal presence asymmetry k spike interval timeout = bytes at form ⊢
  have run := State.pathAdd_ok (s := s.taken bytes) (r := ⟨c, line, tag, addTuning (addTuningBytes nominal presence asymmetry k spike interval timeout)⟩)
    (State.findPath_free (s := s.taken bytes) free) found
  rw [doneOr_eq (addTuning_adjusted nominal presence asymmetry k spike interval timeout)] at run
  refine congrArg Host.Outcome.next ((State.request_eq (t := s.addPath i _) idle ((State.parsed_of form _).trans run)).trans ?_)
  rw [← addTuning_kept]
  rfl

end Sys2Proof.Machine
end

section
/-! PATH-SET, the lifecycle commands, and the refusals of the path commands (R3, R4, R8, R9, R11, R16). -/

namespace Sys2Proof.Machine

/-! ### The shared form of the commands of one path (R3) -/

section Check
variable {s : State} {i : PathSlot} {allowed : Lifecycle → Bool}

theorem State.checkPath_vacant (h : (s.paths.get i).life = .vacant) (act : State × Reply) : s.checkPath i allowed act = s.refusing .notFound := if_pos h

theorem State.checkPath_taken (h : (s.paths.get i).life ≠ .vacant) (ok : allowed (s.paths.get i).life = true) (act : State × Reply) :
    s.checkPath i allowed act = act := (if_neg h).trans (if_pos ok)

theorem State.checkPath_wrong (h : (s.paths.get i).life ≠ .vacant) (ok : allowed (s.paths.get i).life = false) (act : State × Reply) :
    s.checkPath i allowed act = s.refusing .wrongState := (if_neg h).trans (if_neg (by simp [ok]))

theorem State.parsed_map {α β : Type} (form : Option α) (f : α → β) (act : β → State × Reply) : s.parsed (form.map f) act = s.parsed form fun x => act (f x) := by
  cases form <;> rfl

/-- A command of one slot byte (11.5). -/
theorem State.slotCommand_eq (slot : Byte) (act : PathSlot → State × Reply) :
    s.slotCommand [slot] allowed act = s.parsed (indexOf 32 slot.toNat) fun i => s.checkPath i allowed (act i) := by
  rw [State.slotCommand, byteAt_zero]
  exact if_pos rfl

/-- A command of one slot byte on a path it takes (R3). -/
theorem State.slotCommand_taken (h : (s.paths.get i).life ≠ .vacant) (ok : allowed (s.paths.get i).life = true) (act : PathSlot → State × Reply) :
    s.slotCommand [byteOf i.val] allowed act = act i := by
  rw [State.slotCommand_eq, toNat_byteOf_fin i, indexOf_fin, State.parsed_some]
  exact State.checkPath_taken h ok _

end Check

/-! ### PATH-SET (R16) -/

/-- The tuning fields in the bytes of PATH-SET behind its slot (R16). -/
def setTuning (rest : List Byte) : TuningRequest :=
  { nominal := carriedValue (byteAt rest 0) 0 (field rest 1 4)
    asymmetry := carriedValue (byteAt rest 0) 1 (signed32 (field rest 5 4))
    shift := carriedValue (byteAt rest 0) 2 (byteAt rest 9)
    spike := carriedValue (byteAt rest 0) 3 (field rest 10 4)
    interval := carriedValue (byteAt rest 0) 4 (field rest 14 2)
    timeout := carriedValue (byteAt rest 0) 5 (byteAt rest 16) }

/-- PATH-SET's form from its slot (R16). -/
theorem parsePathSet_eq (slot : Byte) {rest : List Byte} (length : rest.length = 17) :
    parsePathSet (slot :: rest) = (indexOf 32 slot.toNat).map fun i => (i, setTuning rest) := by
  rw [parsePathSet, if_neg (by simp [length])]
  simp only [byteAt, field_cons, field_cons_zero_one]
  cases indexOf 32 slot.toNat <;> rfl

section Tuning
variable (presence : Byte) (nominal asymmetry : BitVec 32) (k : Byte) (spike : BitVec 32) (interval : BitVec 16) (timeout : Byte)

/-- The bytes of PATH-SET behind its slot (11.5). -/
def setTuningBytes : List Byte :=
  [presence] ++ beBytes 4 nominal.toNat ++ beBytes 4 asymmetry.toNat ++ [k] ++ beBytes 4 spike.toNat ++ beBytes 2 interval.toNat ++ [timeout]

theorem setTuning_eq : setTuning (setTuningBytes presence nominal asymmetry k spike interval timeout) =
    { nominal := carriedValue presence.toNat 0 nominal.toNat
      asymmetry := carriedValue presence.toNat 1 asymmetry.toInt
      shift := carriedValue presence.toNat 2 k.toNat
      spike := carriedValue presence.toNat 3 spike.toNat
      interval := carriedValue presence.toNat 4 interval.toNat
      timeout := carriedValue presence.toNat 5 timeout.toNat } := by
  simp only [setTuning, setTuningBytes, byteAt, List.append_assoc, List.cons_append, List.nil_append, field_cons, field_cons_zero_one, field_behind,
    Nat.reduceSub, Nat.reduceLeDiff, Nat.le_refl, field_word 4 nominal _ (by decide), field_word 4 asymmetry _ (by decide), field_word 4 spike _ (by decide),
    field_word 2 interval _ (by decide), signed32_toNat]

/-- The tuning fields after PATH-SET (R16). -/
theorem setTuning_kept (old : Tuning) : (setTuning (setTuningBytes presence nominal asymmetry k spike interval timeout)).kept old =
    { nominal := if presence.getLsbD 0 then min nominal.toNat 20000000 else old.nominal
      asymmetry := if presence.getLsbD 1 then max (-1000000) (min asymmetry.toInt 1000000) else old.asymmetry
      shift := if presence.getLsbD 2 then min k.toNat 7 else old.shift
      spike := if presence.getLsbD 3 then max 1000 (min spike.toNat 1000000) else old.spike
      interval := if presence.getLsbD 4 then max 1 (min interval.toNat 1000) else old.interval
      timeout := if presence.getLsbD 5 then min timeout.toNat 5 else old.timeout } := by
  rw [setTuning_eq]
  simp only [TuningRequest.kept, keptValue_carried, clampNominal, clampShift, clampTimeout, clampNat_zero, min_comm asymmetry.toInt, min_comm spike.toNat, min_comm interval.toNat]
  rfl

theorem setTuning_adjusted : (setTuning (setTuningBytes presence nominal asymmetry k spike interval timeout)).adjusted = true ↔
    (presence.getLsbD 0 = true ∧ 20000000 < nominal.toNat)
      ∨ (presence.getLsbD 1 = true ∧ (asymmetry.toInt < -1000000 ∨ 1000000 < asymmetry.toInt))
      ∨ (presence.getLsbD 2 = true ∧ 7 < k.toNat)
      ∨ (presence.getLsbD 3 = true ∧ (spike.toNat < 1000 ∨ 1000000 < spike.toNat))
      ∨ (presence.getLsbD 4 = true ∧ (interval.toNat < 1 ∨ 1000 < interval.toNat))
      ∨ (presence.getLsbD 5 = true ∧ 5 < timeout.toNat) := by
  rw [setTuning_eq]
  simp only [TuningRequest.adjusted, Bool.or_eq_true, wasClamped_carried, clampNominal_ne, clampAsymmetry_ne, clampShift_ne, clampSpike_ne, clampInterval_ne,
    clampTimeout_ne, or_assoc]

end Tuning

/-- A measured path is one that PATH-SET and PATH-RETIRE take (R3). -/
theorem Path.active_of_measured {p : Path} (h : p.measured = true) : p.life ≠ .vacant ∧ p.life.active = true :=
  ⟨Path.live_of_measured h, h⟩

/-- Settles O10: the form is read back, and the six fields kept are written and answered. -/
theorem pathSetWritesTheCarriedFields : Obligations.PathSetWritesTheCarriedFields := by
  intro s i presence nominal asymmetry k spike interval timeout idle measured body old new
  obtain ⟨live, active⟩ := Path.active_of_measured measured
  let r := setTuning (setTuningBytes presence nominal asymmetry k spike interval timeout)
  have kept : r.kept old = new := setTuning_kept presence nominal asymmetry k spike interval timeout old
  have form : parsePathSet body = some (i, r) := by
    refine (parsePathSet_eq (byteOf i.val) (rest := setTuningBytes presence nominal asymmetry k spike interval timeout) (by simp [setTuningBytes])).trans ?_
    rw [toNat_byteOf_fin i, indexOf_fin]
    rfl
  have run : (s.taken body).pathSet i r = ((s.taken body).tunePath i r, _) :=
    (State.checkPath_taken (s := s.taken _) live active _).trans
      (congrArg _ (doneOr_eq (setTuning_adjusted presence nominal asymmetry k spike interval timeout) _))
  refine congrArg Host.Outcome.next ((State.request_eq (t := s.tunePath i r) idle ((State.parsed_of form _).trans run)).trans ?_)
  rw [← kept]
  rfl

/-! ### The lifecycle commands (R8, R9, R11) -/

/-- Settles O11: each command's path is one it takes; eligibility is read from the path written. -/
theorem lifecycleCommandsMoveThePath : Obligations.LifecycleCommandsMoveThePath := by
  refine ⟨fun s i idle serving => ⟨_, congrArg Host.Outcome.next (State.request_eq (t := s.onPath i fun p => { p with life := .held }) (r := done []) idle
      (State.slotCommand_taken (s := s.taken _) (by simp [serving]) (by simp [serving]) _)), rfl, fun set => ?_⟩,
    fun s i idle held => ⟨_, congrArg Host.Outcome.next (State.request_eq (t := s.onPath i fun p => { p with life := .inService }) (r := done []) idle
      (State.slotCommand_taken (s := s.taken _) (by simp [held]) (by simp [held]) _)), rfl, fun set => ?_⟩,
    fun s i idle taken => congrArg Host.Outcome.next (State.request_eq (t := s.onPath i Path.requalified) (r := done []) idle
      (State.slotCommand_taken (s := s.taken _) (by obtain e | e := taken <;> simp [e]) (by obtain e | e := taken <;> simp [e]) _))⟩
  · rw [Bool.eq_false_iff, Ne, State.eligible_iff]
    simp
  · rw [State.eligible_iff]
    simp

/-! ### Refusals (R3, R4) -/

/-- A request that is a command of one path: its slot byte, then the lifecycles it takes (R3). -/
def State.OnPath (s : State) (c : Instr) (code : Byte) (body : List Byte) (slot : Byte) (takes : List Lifecycle) : Prop :=
  ∃ (allowed : Lifecycle → Bool) (act : State → PathSlot → State × Reply), (∀ l, allowed l = true → l ∈ takes)
    ∧ exec c s = .next (s.request code body fun u => u.parsed (indexOf 32 slot.toNat) fun i => u.checkPath i allowed (act u i))

theorem State.onPath_of_slotCommand {s : State} {c : Instr} {code slot : Byte} {takes : List Lifecycle} (allowed : Lifecycle → Bool)
    (act : State → PathSlot → State × Reply) (h : ∀ l, allowed l = true → l ∈ takes)
    (run : exec c s = .next (s.request code [slot] fun u => u.slotCommand [slot] allowed (act u))) : s.OnPath c code [slot] slot takes := by
  refine ⟨allowed, act, h, run.trans ?_⟩
  simp only [State.slotCommand_eq]

/-- The five commands of one path (R8, R9, R11, R12, R16). -/
theorem State.onPath_of_command {s : State} {slot : Byte} {rest : List Byte} {c : Instr} {code : Byte} {takes : List Lifecycle}
    (h : (c = .pathSet (slot :: rest) ∧ code = 0x11 ∧ rest.length = 17 ∧ takes = [.trial, .inService, .held])
      ∨ (c = .pathHold [slot] ∧ code = 0x12 ∧ rest = [] ∧ takes = [.inService])
      ∨ (c = .pathRelease [slot] ∧ code = 0x13 ∧ rest = [] ∧ takes = [.held])
      ∨ (c = .pathRequalify [slot] ∧ code = 0x14 ∧ rest = [] ∧ takes = [.inService, .held])
      ∨ (c = .pathRetire [slot] ∧ code = 0x15 ∧ rest = [] ∧ takes = [.trial, .inService, .held])) : s.OnPath c code (slot :: rest) slot takes := by
  have active : ∀ l : Lifecycle, l.active = true → l ∈ [Lifecycle.trial, .inService, .held] := by intro l; cases l <;> decide
  obtain ⟨rfl, rfl, length, rfl⟩ | ⟨rfl, rfl, rfl, rfl⟩ | ⟨rfl, rfl, rfl, rfl⟩ | ⟨rfl, rfl, rfl, rfl⟩ | ⟨rfl, rfl, rfl, rfl⟩ := h
  · refine ⟨Lifecycle.active, fun u i => (u.tunePath i (setTuning rest), doneOr (setTuning rest).adjusted ((setTuning rest).kept (u.paths.get i).tuning).bytes), active, ?_⟩
    refine congrArg Host.Outcome.next (congrArg (s.request 0x11 (slot :: rest)) (funext fun u => ?_))
    rw [parsePathSet_eq slot length, State.parsed_map]
    rfl
  · exact State.onPath_of_slotCommand (· = .inService) _ (by simp) rfl
  · exact State.onPath_of_slotCommand (· = .held) _ (by simp) rfl
  · exact State.onPath_of_slotCommand (fun l => l = .inService || l = .held) _ (by simp) rfl
  · exact State.onPath_of_slotCommand Lifecycle.active _ active rfl

/-- A PATH-ADD of a slot, line or tag outside its encoding has no form (R4). -/
theorem parsePathAdd_wrong {choice line : Byte} {tag : BitVec 16} {rest : List Byte} (length : rest.length = 17)
    (wrong : (31 < choice.toNat ∧ choice ≠ 0xFF) ∨ 5 < line.toNat ∨ 4095 < tag.toNat) : parsePathAdd ([choice, line] ++ beBytes 2 tag.toNat ++ rest) = none := by
  rw [parsePathAdd_eq choice line tag (by decide) length]
  obtain ⟨beyond, named⟩ | beyond | beyond := wrong
  · rw [slotChoice_beyond beyond named]
    rfl
  · rw [indexOf_ge beyond]
    cases slotChoice 32 choice.toNat <;> rfl
  · rw [tagOf, if_neg (Nat.not_le.2 beyond)]
    cases slotChoice 32 choice.toNat <;> cases indexOf 6 line.toNat <;> rfl

/-- A PATH-ADD within its encodings has a form of its line and tag (R4). -/
theorem parsePathAdd_right {choice line : Byte} {tag : BitVec 16} {rest : List Byte} (length : rest.length = 17)
    (lineOk : line.toNat ≤ 5) (tagOk : tag.toNat ≤ 4095) {c : SlotChoice 32} (chosen : slotChoice 32 choice.toNat = some c) :
    ∃ (l : Line) (t : BitVec 12), l.val = line.toNat ∧ t.toNat = tag.toNat
      ∧ parsePathAdd ([choice, line] ++ beBytes 2 tag.toNat ++ rest) = some ⟨c, l, t, addTuning rest⟩ := by
  refine ⟨⟨line.toNat, by omega⟩, BitVec.ofNat 12 tag.toNat, rfl, ?_, ?_⟩
  · rw [BitVec.toNat_ofNat, Nat.mod_eq_of_lt (by omega)]
  · rw [parsePathAdd_eq choice line tag (by decide) length, chosen, indexOf_lt (by omega), tagOf, if_pos tagOk]
    rfl

/-- A slot choice within its encoding is one. -/
theorem slotChoice_right {n : Nat} {choice : Byte} (h : choice.toNat < n ∨ choice = 0xFF) : ∃ c, slotChoice n choice.toNat = some c := by
  obtain below | rfl := h
  · by_cases any : choice.toNat = 255
    · exact ⟨.any, if_pos any⟩
    · exact ⟨.named ⟨_, below⟩, by rw [slotChoice, if_neg any, indexOf_lt below]; rfl⟩
  · exact ⟨.any, slotChoice_any n⟩

/-- Settles O9: PATH-ADD by the order of its checks, the commands of one path by their shared form. -/
theorem pathCommandsRefuse : Obligations.PathCommandsRefuse := by
  refine ⟨fun s choice line tag rest idle length => ⟨fun wrong => ?_, fun ⟨choiceOk, lineOk, tagOk⟩ => ?_⟩,
    fun s slot rest c code takes idle command => ?_, fun s slot options idle beyond => ?_⟩
  · exact congrArg Host.Outcome.next (State.request_refusing idle (State.parsed_of_none _ (parsePathAdd_wrong length wrong) _))
  · have refused {c : SlotChoice 32} (chosen : slotChoice 32 choice.toNat = some c) {e : Result}
        (why : ∀ (l : Line) (t : BitVec 12), l.val = line.toNat → t.toNat = tag.toNat →
          (s.taken ([choice, line] ++ beBytes 2 tag.toNat ++ rest)).pathAdd ⟨c, l, t, addTuning rest⟩ = (s.taken ([choice, line] ++ beBytes 2 tag.toNat ++ rest)).refusing e) :
        exec (.pathAdd ([choice, line] ++ beBytes 2 tag.toNat ++ rest)) s
          = .next { s with cmp := s.answered ([choice, line] ++ beBytes 2 tag.toNat ++ rest) 0x10 e [] } := by
      obtain ⟨l, t, lineIs, tagIs, form⟩ := parsePathAdd_right length lineOk tagOk chosen
      exact congrArg Host.Outcome.next (State.request_refusing idle ((State.parsed_of form _).trans (why l t lineIs tagIs)))
    obtain ⟨c, chosen⟩ := slotChoice_right (n := 32) (choiceOk.imp_left Nat.lt_succ_of_le)
    refine ⟨fun ⟨m, live, lineHeld, tagHeld⟩ => refused chosen fun l t lineIs tagIs => ?_, fun free => ?_⟩
    · refine State.pathAdd_held fun none => ?_
      have out := State.findPath_none.1 none m
      rw [Bool.eq_false_iff, Ne, Path.holds_iff] at out
      exact out ⟨live, Fin.ext (lineHeld.trans lineIs.symm), BitVec.eq_of_toNat_eq (tagHeld.trans tagIs.symm)⟩
    · have unheld (l : Line) (t : BitVec 12) (lineIs : l.val = line.toNat) (tagIs : t.toNat = tag.toNat) :
          (s.taken ([choice, line] ++ beBytes 2 tag.toNat ++ rest)).findPath l t = none :=
        State.findPath_free (s := s.taken _) fun m live ⟨lineHeld, tagHeld⟩ =>
          free m live ⟨(congrArg Fin.val lineHeld).trans lineIs, (congrArg BitVec.toNat tagHeld).trans tagIs⟩
      refine ⟨fun ⟨any, full⟩ => ?_, fun m named live => ?_⟩
      · subst any
        exact refused (slotChoice_any 32) fun l t lineIs tagIs => State.pathAdd_refused (unheld l t lineIs tagIs) (State.slotForPath_full (s := s.taken _) full)
      · subst named
        exact refused (slotChoice_named m (by decide)) fun l t lineIs tagIs => State.pathAdd_refused (unheld l t lineIs tagIs) (if_neg live)
  · obtain ⟨allowed, act, only, run⟩ := State.onPath_of_command (s := s) command
    rw [run]
    refine ⟨fun beyond => ?_, fun i named => ⟨fun vacant => ?_, fun live other => ?_⟩⟩ <;> refine congrArg Host.Outcome.next (State.request_refusing idle ?_)
    · exact State.parsed_of_none _ (indexOf_ge beyond) _
    · refine (State.parsed_of (x := i) (by rw [named, toNat_byteOf_fin i, indexOf_fin]) _).trans ?_
      exact State.checkPath_vacant (s := s.taken _) vacant _
    · refine (State.parsed_of (x := i) (by rw [named, toNat_byteOf_fin i, indexOf_fin]) _).trans ?_
      exact State.checkPath_wrong (s := s.taken _) live (Bool.eq_false_iff.2 fun e => other (only _ e)) _
  · refine congrArg Host.Outcome.next (State.request_refusing idle ?_)
    exact ((s.taken _).ofLength_self [slot, options] _).trans (State.parsed_of_none _ (indexOf_byte_ge [options] beyond) _)

end Sys2Proof.Machine
end

section
/-! The records that the reads return, spelled field by field (R17, R82, R113, R129, R154). -/

namespace Sys2Proof.Machine

/-! ### Path and port records -/

theorem OutlierRun.bytes_eq (r : OutlierRun) : r.bytes = match r with
    | .none => [0, 0] | .one .above => [1, 1] | .one .below => [2, 1] | .two .above => [1, 2] | .two .below => [2, 2] := by
  obtain _ | ⟨_ | _⟩ | ⟨_ | _⟩ := r <;> rfl

theorem mediumByte_eq (l : Line) : (mediumOf l).byte = if l.val < 4 then 0 else 1 := by
  unfold mediumOf
  split <;> rfl

/-- PATH-READ's record (R17). -/
theorem Path.bytes_eq (p : Path) : p.bytes = pathRecord p := by
  unfold Path.bytes pathRecord Tuning.bytes WeatherRecord.bytes PathCounters.bytes
  rw [OutlierRun.bytes_eq, mediumByte_eq]
  simp only [List.append_assoc, List.cons_append, List.nil_append, beBytes_one, counterBytes, signedBytes]
  rfl

/-- A port's record (R154). -/
theorem LocalPort.bytes_eq (p : LocalPort) : p.bytes = portRecord p := rfl

/-! ### Feed records -/

/-- A number summed bit by bit (R171). -/
theorem foldl_bits (b : Nat → Bool) (l : List Nat) (a : Nat) :
    l.foldl (fun a k => if b k = true then a + 2 ^ k else a) a = a + (l.map fun k => if b k = true then 2 ^ k else 0).sum := by
  induction l generalizing a with
  | nil => rfl
  | cons k l ih =>
    rw [List.foldl_cons, ih, List.map_cons, List.sum_cons]
    split <;> omega

theorem SeqWindow.flagsNumber_eq (x : SeqWindow) (w : Nat) : x.flagsNumber w
    = ((List.range w).map fun k => if x.seen.getLsbD ((x.high - BitVec.ofNat 32 w + 1 + BitVec.ofNat 32 k).toNat % w) = true then 2 ^ k else 0).sum :=
  (foldl_bits (fun k => seenFlag w x.seen (x.high - BitVec.ofNat 32 w + 1 + BitVec.ofNat 32 k)) _ 0).trans (Nat.zero_add _)

theorem OutFields.bytes_eq (o : OutFields) : o.bytes = [byteOf o.port.val] ++ beBytes 4 o.pathSet.toNat
      ++ [if o.twoCopies then 2 else 1, slotByteOf o.pin] ++ beBytes 2 o.rateLimit.toNat ++ [classByte o.defaultUrgency, classByte o.ceiling]
      ++ beBytes 4 o.nextSeq.toNat ++ [slotByteOf o.lead] ++ beBytes 2 o.rateCount.toNat
      ++ beBytes 4 o.counters.accepted.toNat ++ beBytes 4 o.counters.rateDrop.toNat ++ beBytes 4 o.counters.noPath.toNat
      ++ beBytes 4 o.counters.distressed.toNat ++ beBytes 4 o.counters.singleSends.toNat ++ beBytes 4 o.counters.busyDrop0.toNat
      ++ beBytes 4 o.counters.busyDrop1.toNat := by
  simp only [OutFields.bytes, pathSetBytes, counterBytes, beBytes_one, optionalSlotByte_eq, List.append_assoc, List.cons_append, List.nil_append]
  rfl

theorem StartMode.bytes_eq (x : StartMode) : x.bytes = match x with | .adopt => [0, 0, 0, 0, 0] | .expect e => [1] ++ beBytes 4 e.toNat := by
  cases x <;> rfl

/-- FEED-READ's record (R82, R129). -/
theorem Feed.bytes_eq (f : Feed) : f.bytes = feedRecord f := by
  unfold Feed.bytes feedRecord
  cases f.direction with
  | outbound =>
    simp only [OutFields.bytes_eq, Direction.byte, List.append_assoc, List.cons_append, List.nil_append]
  | inbound =>
    simp only [InFields.bytes, StartMode.bytes_eq, SeqWindow.flagsNumber_eq, windowSize, counterBytes, beBytes_one, flagByte, Direction.byte, List.append_assoc,
      List.cons_append, List.nil_append] <;> rfl

/-! ### Line records -/

theorem LinePort.sourceByte_eq (p : LinePort) : p.sourceByte = if sendingOf p .urgent ≠ [] then 1 else if sendingOf p .normal ≠ [] then 2 else 0 := by
  unfold LinePort.sourceByte sendingOf
  obtain _ | ⟨_ | _ | ⟨_ | _, f⟩, _⟩ := p.tx <;> rfl

theorem LinePort.carrierByte_eq (p : LinePort) : flagByte p.carrier = if p.grade = 0 then 0 else 1 := by
  by_cases h : p.grade = 0 <;> simp [flagByte, LinePort.carrier, h]

theorem LinePort.sendingByte_eq (p : LinePort) : flagByte p.tx.isSome = if p.tx = none then 0 else 1 := by
  cases p.tx <;> rfl

/-- LINE-READ's record of a line (R75, R113). -/
theorem State.lineBytes_eq (s : State) (l : Line) : s.lineBytes l = lineRecord s l := by
  have sending (p : LinePort) (c : Urgency) : p.sendingFrom c = sendingOf p c := rfl
  have held : s.reserveHeld = if s.settings.reserve = true then
      ((List.finRange 6).map fun m => 32 - ((sendingOf (s.lines.get m) .urgent ++ (s.lines.get m).urgent).map (·.cells)).sum).sum else 0 := rfl
  have pin : (match mediumOf l with | .radio => (s.lines.get l).presence | .fibre => (s.lines.get l).lock) = if l.val < 4 then (s.lines.get l).presence else (s.lines.get l).lock := by
    unfold mediumOf
    split_ifs <;> rfl
  unfold State.lineBytes lineRecord
  dsimp only
  rw [← pin]
  rw [LinePort.sourceByte_eq, LinePort.carrierByte_eq, LinePort.sendingByte_eq, held]
  simp only [LineCounters.bytes, LinePort.cells, queueCells, LinePort.queue, LinePort.waiting, counterBytes, beBytes_one, flagByte, List.append_assoc, List.cons_append,
    List.nil_append]
  rfl

/-! ### The reads -/

section Reads
variable {s : State}

/-- A read of two bytes whose name is spelled (R17, R82, R113). -/
theorem State.read_spelled {α : Type} {form : Option α} {x : α} (slot options : Byte) (spelled : form = some x) (act : α → State × Reply) :
    s.ofLength 2 [slot, options] (s.parsed form act) = act x :=
  (s.ofLength_self [slot, options] _).trans (State.parsed_of spelled act)

theorem lineNameOf_line (l : Line) : lineNameOf (byteOf l.val).toNat = some (.line l) := by
  rw [toNat_byteOf_fin l, lineNameOf, dif_pos l.isLt]

theorem lineNameOf_port (p : Port) : lineNameOf (byteOf (16 + p.val)).toNat = some (.port p) := by
  have value : (byteOf (16 + p.val)).toNat = 16 + p.val := by rw [byteOf, BitVec.toNat_ofNat, Nat.mod_eq_of_lt (by omega)]
  have back : (⟨16 + p.val - 16, by omega⟩ : Port) = p := Fin.ext (by simp)
  rw [value, lineNameOf, dif_neg (by omega), dif_pos (by omega), back]

theorem lineNameOf_none {v : Nat} (h : (5 < v ∧ v < 16) ∨ 19 < v) : lineNameOf v = none := by
  rw [lineNameOf, dif_neg (by omega), dif_neg (by omega)]

theorem directionOf_byte (d : Direction) : directionOf d.byte.toNat = some d := by cases d <;> rfl

theorem feedNumberOf_toNat {number : BitVec 16} (h : number ≠ 0) : feedNumberOf number.toNat = some number := by
  rw [feedNumberOf, BitVec.ofNat_toNat, BitVec.setWidth_eq, if_neg h]

/-- FEED-FIND of a feed number (R82). -/
theorem State.feedFind_eq (direction : Direction) {number : BitVec 16} (h : number ≠ 0) :
    s.feedFind ([direction.byte] ++ beBytes 2 number.toNat) = s.lookFeed direction number := by
  have length : ([direction.byte] ++ beBytes 2 number.toNat).length = 3 := rfl
  have value : field ([direction.byte] ++ beBytes 2 number.toNat) 1 2 = number.toNat := (field_cons _ _ 0 2).trans (field_word_alone 2 number (by decide))
  rw [State.feedFind, value, List.singleton_append, byteAt_zero, directionOf_byte, feedNumberOf_toNat h]
  exact if_pos length

/-- PATH-FIND of a line and a tag (R18). -/
theorem State.pathFind_eq (line : Byte) (tag : BitVec 16) :
    s.pathFind ([line] ++ beBytes 2 tag.toNat) = s.parsed (indexOf 6 line.toNat) fun l => s.parsed (tagOf tag.toNat) fun t => s.lookPath l t := by
  have length : ([line] ++ beBytes 2 tag.toNat).length = 3 := rfl
  have value : field ([line] ++ beBytes 2 tag.toNat) 1 2 = tag.toNat := (field_cons _ _ 0 2).trans (field_word_alone 2 tag (by decide))
  rw [State.pathFind, value, List.singleton_append, byteAt_zero]
  exact if_pos length

theorem State.lookFeed_some {direction : Direction} {number : BitVec 16} {k : FeedSlot} (h : s.findFeed direction number = some k) :
    s.lookFeed direction number = (s, done [byteOf k.val]) := by
  unfold State.lookFeed
  rw [h]
  rfl

theorem State.lookFeed_none {direction : Direction} {number : BitVec 16} (h : s.findFeed direction number = none) :
    s.lookFeed direction number = s.refusing .notFound := by
  unfold State.lookFeed
  rw [h]

theorem State.lookPath_some {line : Line} {tag : BitVec 12} {i : PathSlot} (h : s.findPath line tag = some i) :
    s.lookPath line tag = (s, done [byteOf i.val, (s.paths.get i).life.byte]) := by
  unfold State.lookPath
  rw [h]
  rfl

theorem State.lookPath_none {line : Line} {tag : BitVec 12} (h : s.findPath line tag = none) : s.lookPath line tag = s.refusing .notFound := by
  unfold State.lookPath
  rw [h]

end Reads

/-- Settles O13: each record is its bytes, and each clear is the table's entry rewritten. -/
theorem readsReturnTheRecordAndClear : Obligations.ReadsReturnTheRecordAndClear := by
  refine ⟨fun s i options idle => ?_, fun s k options idle => ?_, fun s l options idle => ?_, fun s p options idle => ?_, fun s direction number idle given unique => ?_,
    fun s name options idle unnamed => ?_, fun s line tag idle => ⟨fun wrong => ?_, fun lineOk tagOk => ?_⟩⟩
  · rw [← Path.bytes_eq, ← clearOption_byteAt (byteOf i.val) options]
    refine congrArg Host.Outcome.next ((State.request_eq (t := if clearOption (byteAt [byteOf i.val, options] 1) then s.onPath i Path.zeroCounters else s)
      (r := done (s.paths.get i).bytes) idle ((State.read_spelled _ _ (indexOf_byteOf i [options]) _).trans ?_)).trans ?_)
    · split <;> rfl
    · split <;> rfl
  · rw [← Feed.bytes_eq, ← clearOption_byteAt (byteOf k.val) options]
    refine congrArg Host.Outcome.next ((State.request_eq (t := if clearOption (byteAt [byteOf k.val, options] 1) then s.onFeed k Feed.zeroCounters else s)
      (r := done (s.feeds.get k).bytes) idle ((State.read_spelled _ _ (indexOf_byteOf k [options]) _).trans ?_)).trans ?_)
    · split <;> rfl
    · split <;> rfl
  · rw [← State.lineBytes_eq, ← clearOption_byteAt (byteOf l.val) options]
    refine congrArg Host.Outcome.next ((State.request_eq (t := if clearOption (byteAt [byteOf l.val, options] 1) then s.countLine l fun _ => .zero else s)
      (r := done (s.lineBytes l)) idle ((State.read_spelled _ _ (x := .line l) ((congrArg _ (byteAt_zero _ _)).trans (lineNameOf_line l)) _).trans ?_)).trans ?_)
    · cases clearOption (byteAt [byteOf l.val, options] 1) <;> rfl
    · split <;> rfl
  · rw [← LocalPort.bytes_eq, ← clearOption_byteAt (byteOf (16 + p.val)) options]
    refine congrArg Host.Outcome.next ((State.request_eq (t := if clearOption (byteAt [byteOf (16 + p.val), options] 1) then s.countPort p fun _ => .zero else s)
      (r := done (s.ports.get p).bytes) idle ((State.read_spelled _ _ (x := .port p) ((congrArg _ (byteAt_zero _ _)).trans (lineNameOf_port p)) _).trans ?_)).trans ?_)
    · cases clearOption (byteAt [byteOf (16 + p.val), options] 1) <;> rfl
    · split <;> rfl
  · refine ⟨fun k opened toward numbered => ?_, fun unnumbered => ?_⟩
    · have found : s.findFeed direction number = some k := by
        rw [← toward, ← numbered]
        exact State.findFeed_of_unique unique opened
      exact congrArg Host.Outcome.next (State.request_eq (t := s) (r := done [byteOf k.val]) idle
        ((State.feedFind_eq direction given).trans (State.lookFeed_some (s := s.taken _) found)))
    · have unfound : s.findFeed direction number = none := State.findFeed_none.2 unnumbered
      exact congrArg Host.Outcome.next (State.request_refusing idle ((State.feedFind_eq direction given).trans (State.lookFeed_none (s := s.taken _) unfound)))
  · refine congrArg Host.Outcome.next (State.request_refusing idle ?_)
    exact ((s.taken _).ofLength_self [name, options] _).trans (State.parsed_of_none _ ((congrArg _ (byteAt_zero _ _)).trans (lineNameOf_none unnamed)) _)
  · refine congrArg Host.Outcome.next (State.request_refusing idle ((State.pathFind_eq line tag).trans ?_))
    obtain beyond | beyond := wrong
    · exact State.parsed_of_none _ (indexOf_ge beyond) _
    · rw [tagOf, if_neg (Nat.not_le.2 beyond)]
      cases indexOf 6 line.toNat <;> rfl
  · have look (u : State) : u.pathFind ([line] ++ beBytes 2 tag.toNat) = u.lookPath ⟨line.toNat, by omega⟩ (BitVec.ofNat 12 tag.toNat) := by
      rw [State.pathFind_eq, indexOf_lt (by omega), State.parsed_some, tagOf, if_pos tagOk, State.parsed_some]
    have tagIs : (BitVec.ofNat 12 tag.toNat).toNat = tag.toNat := by rw [BitVec.toNat_ofNat, Nat.mod_eq_of_lt (by omega)]
    refine ⟨fun i unique live lineHeld tagHeld => ?_, fun free => ?_⟩
    · have found : s.findPath ⟨line.toNat, by omega⟩ (BitVec.ofNat 12 tag.toNat) = some i := by
        rw [← State.findPath_of_unique unique live]
        congr 1
        · exact Fin.ext lineHeld.symm
        · exact BitVec.eq_of_toNat_eq (tagIs.trans tagHeld.symm)
      exact congrArg Host.Outcome.next (State.request_eq (t := s) (r := done [byteOf i.val, (s.paths.get i).life.byte]) idle
        ((look _).trans (State.lookPath_some (s := s.taken _) found)))
    · have unfound : s.findPath ⟨line.toNat, by omega⟩ (BitVec.ofNat 12 tag.toNat) = none := State.findPath_free fun m live ⟨lineHeld, tagHeld⟩ =>
        free m live ⟨congrArg Fin.val lineHeld, (congrArg BitVec.toNat tagHeld).trans tagIs⟩
      exact congrArg Host.Outcome.next (State.request_refusing idle ((look _).trans (State.lookPath_none (s := s.taken _) unfound)))

end Sys2Proof.Machine
end

section
/-! The operand forms of the feed commands read back, and FEED-OPEN (R78, R79). -/

namespace Sys2Proof.Machine

/-! ### The codings of single fields (R78, R171, 11.5) -/

theorem slotChoice_none_iff {n : Nat} {b : Byte} : slotChoice n b.toNat = none ↔ n ≤ b.toNat ∧ b ≠ 0xFF := by
  refine ⟨fun none => ?_, fun ⟨beyond, named⟩ => slotChoice_beyond beyond named⟩
  by_contra out
  obtain ⟨c, some⟩ := slotChoice_right (n := n) (choice := b) (by
    by_cases any : b = 0xFF
    · exact .inr any
    · exact .inl (Nat.lt_of_not_le fun le => out ⟨le, any⟩))
  cases none.symm.trans some

theorem indexOf_none_iff {n v : Nat} : indexOf n v = none ↔ n ≤ v := by
  refine ⟨fun none => Nat.le_of_not_lt fun lt => ?_, indexOf_ge⟩
  cases none.symm.trans (indexOf_lt lt)

theorem feedNumberOf_none_iff {v : BitVec 16} : feedNumberOf v.toNat = none ↔ v = 0 := by
  rw [feedNumberOf, BitVec.ofNat_toNat, BitVec.setWidth_eq]
  exact ite_eq_left_iff.trans (by simp)

theorem copiesOf_none_iff : ∀ {b : Byte}, copiesOf b.toNat = none ↔ b ≠ 1 ∧ b ≠ 2 := by decide

theorem optionalSlot_none_iff : ∀ {b : Byte}, optionalSlot b.toNat = none ↔ 31 < b.toNat ∧ b ≠ 0xFF := by decide

theorem urgencyOf_none_iff : ∀ {b : Byte}, urgencyOf b.toNat = none ↔ 1 < b.toNat := by decide

theorem directionOf_none_iff : ∀ {b : Byte}, directionOf b.toNat = none ↔ 1 < b.toNat := by decide

theorem sizeCodeOf_none_iff : ∀ {b : Byte}, sizeCodeOf b.toNat = none ↔ b.toNat < 4 ∨ 8 < b.toNat := by decide

theorem startOf_none_iff {b : Byte} (e : Nat) : startOf b.toNat e = none ↔ 1 < b.toNat := by
  unfold startOf
  split
  · next zero => simp [zero]
  · next one => simp [one]
  · next zero one =>
    have : ¬ b.toNat = 0 := zero
    have : ¬ b.toNat = 1 := one
    simp; omega

theorem maskOf_eq {b : Byte} : maskOf b.toNat = if b.setWidth 4 = 0#4 then none else some (b.setWidth 4) := by
  rw [maskOf, BitVec.ofNat_toNat]
  rfl

theorem maskOf_some {b : Byte} (h : b.setWidth 4 ≠ 0#4) : maskOf b.toNat = some (b.setWidth 4) := maskOf_eq.trans (if_neg h)

theorem sizeCodeOf_byteOf : ∀ size : Fin 5, sizeCodeOf (byteOf (4 + size.val)).toNat = some (4 + size.val) := by decide

theorem maskOf_none_iff {b : Byte} : maskOf b.toNat = none ↔ b.setWidth 4 = 0#4 := by
  rw [maskOf_eq]
  split <;> simp [*]

theorem carried_eq {α : Type} (presence : Byte) (k : Nat) (value : Option α) :
    carried presence.toNat k value = if presence.getLsbD k = true then value.map some else some none := by
  rw [carried, BitVec.testBit_toNat]

theorem carried_none_iff {α : Type} {presence : Byte} {k : Nat} {value : Option α} :
    carried presence.toNat k value = none ↔ presence.getLsbD k = true ∧ value = none := by
  rw [carried_eq]
  split <;> simp [*]

/-- A field carried in its coding, or not carried, is the value it spells, or its default. -/
theorem carried_getD {α : Type} {presence : Byte} {k : Nat} {value : Option α} {x d : α} (h : if presence.getLsbD k = true then value = some x else x = d) :
    ∃ y, carried presence.toNat k value = some y ∧ y.getD d = x := by
  rw [carried_eq]
  split at h
  · next bit => exact ⟨some x, by rw [if_pos bit, h]; rfl, rfl⟩
  · next bit => exact ⟨none, if_neg bit, h.symm⟩

theorem carriedValue_getD {α : Type} (presence : Byte) (k : Nat) (v d : α) :
    (carriedValue presence.toNat k v).getD d = if presence.getLsbD k = true then v else d := by
  rw [carriedValue, BitVec.testBit_toNat]
  split <;> rfl

theorem optionalSlot_slotByteOf (p : Option PathSlot) : optionalSlot (slotByteOf p).toNat = some p := by
  revert p
  decide

theorem urgencyOf_byte (c : Urgency) : urgencyOf c.byte.toNat = some c := by cases c <;> rfl

theorem copiesOf_byte (two : Bool) : copiesOf (if two then 2 else 1 : Byte).toNat = some two := by cases two <;> rfl

/-- A form with fields in their codings fails where one of them does (R166). -/
theorem bind_eq_none_of {α β : Type} {o : Option α} {f : α → Option β} {p : Prop} (h : ∀ x, f x = none ↔ p) : (o >>= f) = none ↔ o = none ∨ p := by
  cases o with
  | none => exact iff_of_true rfl (.inl rfl)
  | some x => exact (h x).trans (by simp)

/-! ### FEED-OPEN's forms (R78) -/

section Out
variable (choice : Byte) (number : BitVec 16) (port : Byte) (set : FlagSet 32) (copies presence pin : Byte) (rate : BitVec 16) (urgency ceiling : Byte) (start : Seq)

/-- The bytes of an OUTBOUND FEED-OPEN, in their codings or not (11.5). -/
def openOutBytes : List Byte :=
  [choice, 0] ++ beBytes 2 number.toNat ++ [port] ++ beBytes 4 set.toNat ++ [copies, presence, pin] ++ beBytes 2 rate.toNat ++ [urgency, ceiling] ++ beBytes 4 start.toNat

theorem parseOpenOut_eq : parseOpenOut (openOutBytes choice number port set copies presence pin rate urgency ceiling start) = (do
    let slot ← slotChoice 64 choice.toNat
    let number ← feedNumberOf number.toNat
    let port ← indexOf 4 port.toNat
    let copies ← copiesOf copies.toNat
    let pin ← carried presence.toNat 0 (optionalSlot pin.toNat)
    let urgency ← carried presence.toNat 2 (urgencyOf urgency.toNat)
    let ceiling ← carried presence.toNat 3 (urgencyOf ceiling.toNat)
    pure
      { slot := slot, number := number, port := port, pathSet := set, twoCopies := copies, pin := pin.getD none
        rateLimit := if presence.getLsbD 1 = true then rate else 0
        defaultUrgency := urgency.getD .normal
        ceiling := ceiling.getD .urgent
        startSeq := if presence.getLsbD 4 = true then start else 1 }) := by
  rw [parseOpenOut, if_neg (by simp [openOutBytes])]
  simp only [openOutBytes, byteAt, List.append_assoc, List.cons_append, List.nil_append, field_cons, field_cons_zero_one, field_behind, Nat.reduceSub, Nat.reduceLeDiff,
    Nat.le_refl, field_word 2 number _ (by decide), field_word 4 set _ (by decide), field_word 2 rate _ (by decide), field_word_alone 4 start (by decide),
    BitVec.ofNat_toNat, BitVec.setWidth_eq, carriedValue_getD]
  rfl

theorem parseOpenOut_none_iff : parseOpenOut (openOutBytes choice number port set copies presence pin rate urgency ceiling start) = none ↔
    (63 < choice.toNat ∧ choice ≠ 0xFF) ∨ number = 0 ∨ 3 < port.toNat ∨ (copies ≠ 1 ∧ copies ≠ 2)
      ∨ (presence.getLsbD 0 = true ∧ 31 < pin.toNat ∧ pin ≠ 0xFF) ∨ (presence.getLsbD 2 = true ∧ 1 < urgency.toNat)
      ∨ (presence.getLsbD 3 = true ∧ 1 < ceiling.toNat) := by
  rw [parseOpenOut_eq, bind_eq_none_of fun _ => bind_eq_none_of fun _ => bind_eq_none_of fun _ => bind_eq_none_of fun _ => bind_eq_none_of fun _ =>
    bind_eq_none_of fun _ => bind_eq_none_of (p := False) fun _ => by simp]
  rw [slotChoice_none_iff, feedNumberOf_none_iff, indexOf_none_iff, copiesOf_none_iff, carried_none_iff, carried_none_iff, carried_none_iff,
    optionalSlot_none_iff, urgencyOf_none_iff, urgencyOf_none_iff, or_false]
  rfl

/-- The slot and number of an OUTBOUND FEED-OPEN's form. -/
theorem parseOpenOut_some {r : OpenOutRequest} (h : parseOpenOut (openOutBytes choice number port set copies presence pin rate urgency ceiling start) = some r) :
    slotChoice 64 choice.toNat = some r.slot ∧ r.number = number := by
  rw [parseOpenOut_eq] at h
  simp only [Option.bind_eq_bind, Option.bind_eq_some_iff] at h
  obtain ⟨slot, slotIs, n, numberIs, _, _, _, _, _, _, _, _, _, _, made⟩ := h
  cases made
  refine ⟨slotIs, ?_⟩
  by_cases zero : number = 0
  · cases (feedNumberOf_none_iff.2 zero).symm.trans numberIs
  · exact Option.some.inj (numberIs.symm.trans (feedNumberOf_toNat zero))

end Out

section In
variable (choice : Byte) (number : BitVec 16) (mask size start : Byte) (expected : BitVec 32)

/-- The bytes of an INBOUND FEED-OPEN, in their codings or not (11.5). -/
def openInBytes : List Byte := [choice, 1] ++ beBytes 2 number.toNat ++ [mask, size, start] ++ beBytes 4 expected.toNat

theorem parseOpenIn_eq : parseOpenIn (openInBytes choice number mask size start expected) = (do
    let slot ← slotChoice 64 choice.toNat
    let number ← feedNumberOf number.toNat
    let mask ← maskOf mask.toNat
    let size ← sizeCodeOf size.toNat
    let start ← startOf start.toNat expected.toNat
    pure ⟨slot, number, mask, size, start⟩) := by
  rw [parseOpenIn, if_neg (by simp [openInBytes])]
  simp only [openInBytes, byteAt, List.append_assoc, List.cons_append, List.nil_append, field_cons, field_cons_zero_one, field_behind, Nat.reduceSub, Nat.reduceLeDiff,
    Nat.le_refl, field_word 2 number _ (by decide), field_word_alone 4 expected (by decide)]

theorem parseOpenIn_none_iff : parseOpenIn (openInBytes choice number mask size start expected) = none ↔
    (63 < choice.toNat ∧ choice ≠ 0xFF) ∨ number = 0 ∨ mask.setWidth 4 = 0#4 ∨ (size.toNat < 4 ∨ 8 < size.toNat) ∨ 1 < start.toNat := by
  rw [parseOpenIn_eq, bind_eq_none_of fun _ => bind_eq_none_of fun _ => bind_eq_none_of fun _ => bind_eq_none_of fun _ => bind_eq_none_of (p := False) fun _ => by simp]
  rw [slotChoice_none_iff, feedNumberOf_none_iff, maskOf_none_iff, sizeCodeOf_none_iff, startOf_none_iff, or_false]
  rfl

theorem parseOpenIn_some {r : OpenInRequest} (h : parseOpenIn (openInBytes choice number mask size start expected) = some r) :
    slotChoice 64 choice.toNat = some r.slot ∧ r.number = number := by
  rw [parseOpenIn_eq] at h
  simp only [Option.bind_eq_bind, Option.bind_eq_some_iff] at h
  obtain ⟨slot, slotIs, n, numberIs, _, _, _, _, _, _, made⟩ := h
  cases made
  refine ⟨slotIs, ?_⟩
  by_cases zero : number = 0
  · cases (feedNumberOf_none_iff.2 zero).symm.trans numberIs
  · exact Option.some.inj (numberIs.symm.trans (feedNumberOf_toNat zero))

end In

end Sys2Proof.Machine
end

section
/-! FEED-OPEN, and the refusals of the feed commands (R78 to R82, R95, R166). -/

namespace Sys2Proof.Machine

/-! ### FEED-OPEN's slot (R78) -/

section Slot
variable {s : State}

theorem State.findFeed_free {d : Direction} {n : BitVec 16} (free : ∀ m : FeedSlot, (s.feeds.get m).opened = true → ¬ ((s.feeds.get m).direction = d ∧ (s.feeds.get m).number = n)) :
    s.findFeed d n = none := State.findFeed_none.2 fun m ⟨opened, feed⟩ => free m opened feed

theorem State.slotForFeed_held {d : Direction} {n : BitVec 16} {c : SlotChoice 64} (held : s.findFeed d n ≠ none) : s.slotForFeed d n c = .error .inUse :=
  if_pos (Option.isSome_iff_ne_none.2 held)

theorem State.slotForFeed_named {d : Direction} {n : BitVec 16} {k : FeedSlot} (free : s.findFeed d n = none) :
    s.slotForFeed d n (.named k) = if (s.feeds.get k).opened then .error .inUse else .ok k := by
  rw [State.slotForFeed, free]
  rfl

theorem State.slotForFeed_any {d : Direction} {n : BitVec 16} {k : FeedSlot} (free : s.findFeed d n = none) (closed : (s.feeds.get k).opened = false)
    (below : ∀ m : FeedSlot, m < k → (s.feeds.get m).opened = true) : s.slotForFeed d n .any = .ok k := by
  unfold State.slotForFeed
  rw [free, Table.lowest_eq (i := k) (by simp [closed]) fun m less => by simp [below m less]]
  rfl

theorem State.slotForFeed_full {d : Direction} {n : BitVec 16} (free : s.findFeed d n = none) (full : ∀ m : FeedSlot, (s.feeds.get m).opened = true) :
    s.slotForFeed d n .any = .error .noSlot := by
  unfold State.slotForFeed
  rw [free, Table.lowest_none.2 fun m => by simp [full m]]
  rfl

/-- The slot choice of a FEED-OPEN that finds its slot: the one named, or under ANY the lowest CLOSED one. -/
theorem State.slotForFeed_chosen {d : Direction} {n : BitVec 16} {k : FeedSlot} {choice : Byte} (free : s.findFeed d n = none) (closed : (s.feeds.get k).opened = false)
    (chosen : choice = byteOf k.val ∨ (choice = 0xFF ∧ ∀ m : FeedSlot, m < k → (s.feeds.get m).opened = true)) :
    ∃ c, slotChoice 64 choice.toNat = some c ∧ s.slotForFeed d n c = .ok k := by
  obtain rfl | ⟨rfl, below⟩ := chosen
  · exact ⟨_, slotChoice_named k (by decide), (State.slotForFeed_named free).trans (if_neg (by simp [closed]))⟩
  · exact ⟨_, slotChoice_any 64, State.slotForFeed_any free closed below⟩

theorem State.openOut_ok {r : OpenOutRequest} {k : FeedSlot} (found : s.slotForFeed .outbound r.number r.slot = .ok k) :
    s.openOut r = (s.onFeed k fun _ => s.openedOut r, doneOr ((s.openedOut r).out.pathSet ≠ r.pathSet || (s.openedOut r).out.pin ≠ r.pin)
      (beBytes 1 k.val ++ pathSetBytes (s.openedOut r).out.pathSet ++ [optionalSlotByte (s.openedOut r).out.pin])) := by
  unfold State.openOut
  rw [found]

theorem State.openOut_refused {r : OpenOutRequest} {e : Result} (refused : s.slotForFeed .outbound r.number r.slot = .error e) : s.openOut r = s.refusing e := by
  unfold State.openOut
  rw [refused]

theorem State.openIn_ok {r : OpenInRequest} {k : FeedSlot} (found : s.slotForFeed .inbound r.number r.slot = .ok k) :
    s.openIn r = (s.onFeed k fun _ => r.feed, done (beBytes 1 k.val)) := by
  unfold State.openIn
  rw [found]

theorem State.openIn_refused {r : OpenInRequest} {e : Result} (refused : s.slotForFeed .inbound r.number r.slot = .error e) : s.openIn r = s.refusing e := by
  unfold State.openIn
  rw [refused]

/-- The path set that cleaning leaves is its measured members (R79). -/
theorem State.livePaths_eq {set kept : FlagSet 32} (h : ∀ i : PathSlot, kept.mem i.val = true ↔ set.mem i.val = true ∧ (s.paths.get i).measured = true) :
    s.livePaths set = kept :=
  FlagSet.ext_mem fun i => by
    rw [Bool.eq_iff_iff, State.livePaths, FlagSet.mem_ofPred, Bool.and_eq_true]
    exact (h i).symm

theorem State.feedOpen_out (body : List Byte) (h : directionByte body = some .outbound) : s.feedOpen body = s.parsed (parseOpenOut body) s.openOut := by
  unfold State.feedOpen
  rw [h]

theorem State.feedOpen_in (body : List Byte) (h : directionByte body = some .inbound) : s.feedOpen body = s.parsed (parseOpenIn body) s.openIn := by
  unfold State.feedOpen
  rw [h]

theorem directionByte_cons (a b : Byte) (rest : List Byte) : directionByte (a :: b :: rest) = directionOf b.toNat := by
  rw [directionByte, if_pos (by simp), byteAt_succ, byteAt_zero]

end Slot

/-- An INBOUND FEED-OPEN's start byte and expected sequence (11.5). -/
theorem feedOpenInBytes_eq (choice : Byte) (number : BitVec 16) (mask : Byte) (size : Fin 5) (start : StartMode) (unread : BitVec 32) :
    ∃ (mode : Byte) (expected : BitVec 32), feedOpenInBytes choice number mask size start unread = openInBytes choice number mask (byteOf (4 + size.val)) mode expected
      ∧ startOf mode.toNat expected.toNat = some start := by
  cases start with
  | adopt => exact ⟨0, unread, by simp [feedOpenInBytes, openInBytes], rfl⟩
  | expect e =>
    refine ⟨1, e, by simp [feedOpenInBytes, openInBytes], ?_⟩
    change some (StartMode.expect (BitVec.ofNat 32 e.toNat)) = _
    rw [BitVec.ofNat_toNat, BitVec.setWidth_eq]

/-- Settles O14: the form is read back, the slot is the one named or the lowest closed one, and the record written is the one opened. -/
theorem feedOpenOpensTheSlot : Obligations.FeedOpenOpensTheSlot := by
  constructor
  · intro s k choice number port set kept two presence pin pinByte rate urgency ceiling urgencyByte ceilingByte start idle given free closed chosen keptIs pinIs urgencyIs
      ceilingIs body keptPin
    obtain ⟨c, spelled, found⟩ := State.slotForFeed_chosen (s := s) (State.findFeed_free free) closed chosen
    obtain ⟨p, pinSpelled, pinKept⟩ := carried_getD (value := optionalSlot pinByte.toNat) (x := pin) (d := none) (presence := presence) (k := 0) (by
      split at pinIs
      · next bit => rw [if_pos bit, pinIs, optionalSlot_slotByteOf]
      · next bit => rw [if_neg bit, pinIs])
    obtain ⟨u, urgencySpelled, urgencyKept⟩ := carried_getD (value := urgencyOf urgencyByte.toNat) (x := urgency) (d := .normal) (presence := presence) (k := 2) (by
      split at urgencyIs
      · next bit => rw [if_pos bit, urgencyIs, urgencyOf_byte]
      · next bit => rw [if_neg bit, urgencyIs])
    obtain ⟨v, ceilingSpelled, ceilingKept⟩ := carried_getD (value := urgencyOf ceilingByte.toNat) (x := ceiling) (d := .urgent) (presence := presence) (k := 3) (by
      split at ceilingIs
      · next bit => rw [if_pos bit, ceilingIs, urgencyOf_byte]
      · next bit => rw [if_neg bit, ceilingIs])
    let r : OpenOutRequest :=
      { slot := c, number := number, port := port, pathSet := set, twoCopies := two, pin := pin, rateLimit := if presence.getLsbD 1 = true then rate else 0
        defaultUrgency := urgency, ceiling := ceiling, startSeq := if presence.getLsbD 4 = true then start else 1 }
    have form : parseOpenOut body = some r := by
      refine (parseOpenOut_eq choice number (byteOf port.val) set (if two then 2 else 1) presence pinByte rate urgencyByte ceilingByte start).trans ?_
      rw [spelled, feedNumberOf_toNat given, toNat_byteOf_fin port, indexOf_fin, copiesOf_byte, pinSpelled, urgencySpelled, ceilingSpelled]
      simp only [Option.bind_eq_bind, Option.bind_some, pinKept, urgencyKept, ceilingKept]
      rfl
    have live : (s.taken body).livePaths set = kept := State.livePaths_eq (s := s.taken body) keptIs
    have run := State.openOut_ok (s := s.taken body) (r := r) found
    let f : Feed :=
      { opened := true, direction := .outbound, number := number
        out :=
          { port := port, pathSet := kept, twoCopies := two, pin := keptPin, rateLimit := if presence.getLsbD 1 then rate else 0
            defaultUrgency := urgency, ceiling := ceiling, nextSeq := if presence.getLsbD 4 then start else 1, lead := none, rateCount := 0
            counters := ⟨0, 0, 0, 0, 0, 0, 0⟩ }
        inb := ⟨0, 4, .adopt, ⟨false, 0, 0, 0⟩, ⟨0, 0, 0, 0, 0, 0, 0⟩⟩ }
    have opened : (s.taken body).openedOut r = f := by
      unfold State.openedOut State.cleaned
      rw [show r.pathSet = set from rfl, live]
      rfl
    rw [opened, doneOr_eq (p := kept ≠ set ∨ keptPin ≠ pin) (by simp [r, f]), optionalSlotByte_eq] at run
    exact congrArg Host.Outcome.next (State.request_eq (t := s.onFeed k fun _ => f)
      (r := ⟨if kept ≠ set ∨ keptPin ≠ pin then .adjusted else .done, [byteOf k.val] ++ beBytes 4 kept.toNat ++ [slotByteOf keptPin]⟩) idle (((State.feedOpen_out body rfl).trans (State.parsed_of form _)).trans run))
  · intro s k choice number mask size start unread idle given free closed chosen masked body
    obtain ⟨c, spelled, found⟩ := State.slotForFeed_chosen (s := s) (State.findFeed_free free) closed chosen
    obtain ⟨mode, expected, bytes, startIs⟩ := feedOpenInBytes_eq choice number mask size start unread
    let r : OpenInRequest := ⟨c, number, mask.setWidth 4, 4 + size.val, start⟩
    have form : parseOpenIn body = some r := by
      refine ((congrArg parseOpenIn bytes).trans (parseOpenIn_eq choice number mask (byteOf (4 + size.val)) mode expected)).trans ?_
      rw [spelled, feedNumberOf_toNat given, maskOf_some masked, sizeCodeOf_byteOf, startIs]
      rfl
    have direction : directionByte body = some .inbound := (congrArg directionByte bytes).trans (directionByte_cons choice 1 _)
    exact congrArg Host.Outcome.next (State.request_eq (t := s.onFeed k fun _ => r.feed) (r := done [byteOf k.val]) idle
      (((State.feedOpen_in body direction).trans (State.parsed_of form _)).trans (State.openIn_ok (s := s.taken body) (r := r) found)))

end Sys2Proof.Machine
end

section
/-! FEED-SET's forms, and the refusals of the feed commands (R78, R80 to R82, R95, R166). -/

namespace Sys2Proof.Machine

/-! ### FEED-SET's forms (R80) -/

section Out
variable (slot presence : Byte) (set : FlagSet 32) (copies pin : Byte) (rate : BitVec 16) (urgency ceiling : Byte)

/-- The bytes of an OUTBOUND FEED-SET, in their codings or not (11.5). -/
def setOutBytes : List Byte := [slot, 0, presence] ++ beBytes 4 set.toNat ++ [copies, pin] ++ beBytes 2 rate.toNat ++ [urgency, ceiling]

theorem parseSetOut_eq : parseSetOut (setOutBytes slot presence set copies pin rate urgency ceiling) = (do
    let k ← indexOf 64 slot.toNat
    let copies ← carried presence.toNat 1 (copiesOf copies.toNat)
    let pin ← carried presence.toNat 2 (optionalSlot pin.toNat)
    let urgency ← carried presence.toNat 4 (urgencyOf urgency.toNat)
    let ceiling ← carried presence.toNat 5 (urgencyOf ceiling.toNat)
    pure (k,
      { pathSet := carriedValue presence.toNat 0 set, twoCopies := copies, pin := pin, rateLimit := carriedValue presence.toNat 3 rate
        defaultUrgency := urgency, ceiling := ceiling })) := by
  rw [parseSetOut, if_neg (by simp [setOutBytes])]
  simp only [setOutBytes, byteAt, List.append_assoc, List.cons_append, List.nil_append, field_cons, field_cons_zero_one, field_behind, Nat.reduceSub, Nat.reduceLeDiff,
    Nat.le_refl, field_word 4 set _ (by decide), field_word 2 rate _ (by decide), BitVec.ofNat_toNat, BitVec.setWidth_eq]

theorem parseSetOut_none_iff : parseSetOut (setOutBytes slot presence set copies pin rate urgency ceiling) = none ↔
    63 < slot.toNat ∨ (presence.getLsbD 1 = true ∧ copies ≠ 1 ∧ copies ≠ 2)
      ∨ (presence.getLsbD 2 = true ∧ 31 < pin.toNat ∧ pin ≠ 0xFF) ∨ (presence.getLsbD 4 = true ∧ 1 < urgency.toNat)
      ∨ (presence.getLsbD 5 = true ∧ 1 < ceiling.toNat) := by
  rw [parseSetOut_eq, bind_eq_none_of fun _ => bind_eq_none_of fun _ => bind_eq_none_of fun _ => bind_eq_none_of fun _ => bind_eq_none_of (p := False) fun _ => by simp]
  rw [indexOf_none_iff, carried_none_iff, carried_none_iff, carried_none_iff, carried_none_iff, copiesOf_none_iff, optionalSlot_none_iff, urgencyOf_none_iff,
    urgencyOf_none_iff, or_false]
  rfl

/-- The slot of an OUTBOUND FEED-SET's form. -/
theorem parseSetOut_some {x : FeedSlot × SetOutRequest} (h : parseSetOut (setOutBytes slot presence set copies pin rate urgency ceiling) = some x) :
    indexOf 64 slot.toNat = some x.1 := by
  rw [parseSetOut_eq] at h
  simp only [Option.bind_eq_bind, Option.bind_eq_some_iff] at h
  obtain ⟨k, slotIs, _, _, _, _, _, _, _, _, made⟩ := h
  cases made
  exact slotIs

end Out

/-- FEED-SET's form, INBOUND (R80). -/
theorem parseSetIn_eq (slot mask : Byte) : parseSetIn [slot, 1, mask] = (do
    let k ← indexOf 64 slot.toNat
    let mask ← maskOf mask.toNat
    pure (k, mask)) := by
  rw [parseSetIn, if_neg (by simp)]
  simp only [byteAt, field_cons, field_cons_zero_one]

theorem parseSetIn_none_iff {slot mask : Byte} : parseSetIn [slot, 1, mask] = none ↔ 63 < slot.toNat ∨ mask.setWidth 4 = 0#4 := by
  rw [parseSetIn_eq, bind_eq_none_of fun _ => bind_eq_none_of (p := False) fun _ => by simp]
  rw [indexOf_none_iff, maskOf_none_iff, or_false]
  rfl

theorem parseSetIn_named (k : FeedSlot) {mask : Byte} (masked : mask.setWidth 4 ≠ 0#4) : parseSetIn [byteOf k.val, 1, mask] = some (k, mask.setWidth 4) := by
  rw [parseSetIn_eq, toNat_byteOf_fin k, indexOf_fin, maskOf_some masked]
  rfl

section Checks
variable {s : State} {k : FeedSlot}

theorem State.feedSet_out (body : List Byte) (h : directionByte body = some .outbound) :
    s.feedSet body = s.parsed (parseSetOut body) fun x => s.checkDirection x.1 .outbound (s.applySetOut x.1 x.2) := by
  unfold State.feedSet
  rw [h]

theorem State.feedSet_in (body : List Byte) (h : directionByte body = some .inbound) :
    s.feedSet body = s.parsed (parseSetIn body) fun x => s.checkDirection x.1 .inbound (s.applySetIn x.1 x.2) := by
  unfold State.feedSet
  rw [h]

theorem State.checkDirection_closed (closed : (s.feeds.get k).opened = false) (d : Direction) (act : State × Reply) : s.checkDirection k d act = s.refusing .notFound :=
  if_pos (by simp [closed])

theorem State.checkDirection_taken (opened : (s.feeds.get k).opened = true) {d : Direction} (toward : (s.feeds.get k).direction = d) (act : State × Reply) :
    s.checkDirection k d act = act := (if_neg (by simp [opened])).trans (if_pos toward)

theorem State.checkDirection_other (opened : (s.feeds.get k).opened = true) {d : Direction} (toward : (s.feeds.get k).direction ≠ d) (act : State × Reply) :
    s.checkDirection k d act = s.refusing .malformed := (if_neg (by simp [opened])).trans (if_neg toward)

theorem State.checkFeed_closed (closed : (s.feeds.get k).opened = false) (act : State × Reply) : s.checkFeed k act = s.refusing .notFound := if_neg (by simp [closed])

theorem State.checkFeed_opened (opened : (s.feeds.get k).opened = true) (act : State × Reply) : s.checkFeed k act = act := if_pos opened

theorem State.rankOf_inbound (opened : (s.feeds.get k).opened = true) (toward : (s.feeds.get k).direction = .inbound) : s.rankOf k = s.refusing .wrongState := by
  refine (State.checkFeed_opened opened _).trans ?_
  rw [toward]

theorem State.findFeed_held {d : Direction} {n : BitVec 16} (held : ∃ m : FeedSlot, (s.feeds.get m).opened = true ∧ (s.feeds.get m).direction = d ∧ (s.feeds.get m).number = n) :
    s.findFeed d n ≠ none := fun none => held.elim fun m feed => State.findFeed_none.1 none m feed

/-- The refusals of a FEED-OPEN's slot, whatever its direction, in their order (R78). -/
theorem State.slotForFeed_refusals {d : Direction} {n : BitVec 16} {choice : Byte} {c : SlotChoice 64} (spelled : slotChoice 64 choice.toNat = some c) :
    ((∃ m : FeedSlot, (s.feeds.get m).opened = true ∧ (s.feeds.get m).direction = d ∧ (s.feeds.get m).number = n) → s.slotForFeed d n c = .error .inUse)
    ∧ ((∀ m : FeedSlot, (s.feeds.get m).opened = true → ¬ ((s.feeds.get m).direction = d ∧ (s.feeds.get m).number = n)) →
      (choice = 0xFF → (∀ m : FeedSlot, (s.feeds.get m).opened = true) → s.slotForFeed d n c = .error .noSlot)
      ∧ ∀ m : FeedSlot, choice = byteOf m.val → (s.feeds.get m).opened = true → s.slotForFeed d n c = .error .inUse) := by
  refine ⟨fun held => State.slotForFeed_held (State.findFeed_held held), fun free => ⟨fun any full => ?_, fun m named opened => ?_⟩⟩
  · subst any
    cases spelled.symm.trans (slotChoice_any 64)
    exact State.slotForFeed_full (State.findFeed_free free) full
  · subst named
    cases spelled.symm.trans (slotChoice_named m (by decide))
    exact (State.slotForFeed_named (State.findFeed_free free)).trans (if_pos opened)

end Checks

/-! ### The refusals (R78, R80 to R82, R95, R166) -/

/-- Settles O15: each form fails where one of its fields does; what remains is the order of the checks on the slot. -/
theorem feedCommandsRefuse : Obligations.FeedCommandsRefuse := by
  refine ⟨fun s first direction rest idle wrong => ?_, fun s choice number mask size start expected idle => ?_,
    fun s choice number port set copies presence pin rate urgency ceiling start idle => ?_, fun s slot presence set copies pin rate urgency ceiling idle => ?_,
    fun s direction number idle wrong => ?_, fun s slot idle => ⟨fun beyond => ?_, fun mask empty => ?_, fun k named => ?_⟩⟩
  · have none : directionByte (first :: direction :: rest) = none := (directionByte_cons first direction rest).trans (directionOf_none_iff.2 wrong)
    refine ⟨congrArg Host.Outcome.next (State.request_refusing idle ?_), congrArg Host.Outcome.next (State.request_refusing idle ?_)⟩
    · unfold State.feedOpen
      rw [none]
    · unfold State.feedSet
      rw [none]
  · intro body
    have run (u : State) : u.feedOpen body = u.parsed (parseOpenIn body) u.openIn := State.feedOpen_in body rfl
    refine ⟨fun malformed => ?_, fun choiceOk numberOk masked sizeLow sizeHigh startOk => ?_⟩
    · refine congrArg Host.Outcome.next (State.request_refusing idle ((run _).trans (State.parsed_of_none _ ?_ _)))
      exact (parseOpenIn_none_iff choice number mask size start expected).2 (by tauto)
    · cases form : parseOpenIn body with
      | none =>
        have malformed := (parseOpenIn_none_iff choice number mask size start expected).1 form
        rw [← Nat.not_lt] at sizeLow sizeHigh startOk
        have choiceOut : ¬ (63 < choice.toNat ∧ choice ≠ 0xFF) := fun out => choiceOk.elim (fun le => absurd out.1 (Nat.not_lt.2 le)) out.2
        tauto
      | some r =>
        obtain ⟨spelled, numbered⟩ := parseOpenIn_some choice number mask size start expected form
        have refused {e : Result} (why : s.slotForFeed .inbound number r.slot = .error e) : exec (.feedOpen body) s = .next { s with cmp := s.answered body 0x20 e [] } := by
          rw [← numbered] at why
          exact congrArg Host.Outcome.next (State.request_refusing idle (((run _).trans (State.parsed_of form _)).trans (State.openIn_refused (s := s.taken body) why)))
        obtain ⟨held, free⟩ := State.slotForFeed_refusals (s := s) (d := .inbound) (n := number) spelled
        exact ⟨fun h => refused (held h), fun h => ⟨fun any full => refused ((free h).1 any full), fun m named opened => refused ((free h).2 m named opened)⟩⟩
  · intro body malformed
    have run (u : State) : u.feedOpen body = u.parsed (parseOpenOut body) u.openOut := State.feedOpen_out body rfl
    have none_iff : parseOpenOut body = none ↔ malformed := parseOpenOut_none_iff choice number port set copies presence pin rate urgency ceiling start
    refine ⟨fun wrong => congrArg Host.Outcome.next (State.request_refusing idle ((run _).trans (State.parsed_of_none _ (none_iff.2 wrong) _))), fun right => ?_⟩
    obtain ⟨r, form⟩ := Option.ne_none_iff_exists'.1 (mt none_iff.1 right)
    obtain ⟨spelled, numbered⟩ := parseOpenOut_some choice number port set copies presence pin rate urgency ceiling start form
    have refused {e : Result} (why : s.slotForFeed .outbound number r.slot = .error e) : exec (.feedOpen body) s = .next { s with cmp := s.answered body 0x20 e [] } := by
      rw [← numbered] at why
      exact congrArg Host.Outcome.next (State.request_refusing idle (((run _).trans (State.parsed_of form _)).trans (State.openOut_refused (s := s.taken body) why)))
    obtain ⟨held, free⟩ := State.slotForFeed_refusals (s := s) (d := .outbound) (n := number) spelled
    exact ⟨fun h => refused (held h), fun h => ⟨fun any full => refused ((free h).1 any full), fun m named opened => refused ((free h).2 m named opened)⟩⟩
  · intro body malformed
    have run (u : State) : u.feedSet body = u.parsed (parseSetOut body) fun x => u.checkDirection x.1 .outbound (u.applySetOut x.1 x.2) := State.feedSet_out body rfl
    have none_iff : parseSetOut body = none ↔ malformed := parseSetOut_none_iff slot presence set copies pin rate urgency ceiling
    refine ⟨fun wrong => congrArg Host.Outcome.next (State.request_refusing idle ((run _).trans (State.parsed_of_none _ (none_iff.2 wrong) _))), fun right k named => ?_⟩
    obtain ⟨⟨m, r⟩, form⟩ := Option.ne_none_iff_exists'.1 (mt none_iff.1 right)
    have slotIs := parseSetOut_some slot presence set copies pin rate urgency ceiling form
    rw [named, toNat_byteOf_fin k, indexOf_fin] at slotIs
    cases slotIs
    refine ⟨fun closed => ?_, fun opened toward => ?_⟩ <;> refine congrArg Host.Outcome.next (State.request_refusing idle (((run _).trans (State.parsed_of form _)).trans ?_))
    · exact State.checkDirection_closed (s := s.taken body) closed _ _
    · exact State.checkDirection_other (s := s.taken body) opened (fun out => by cases toward.symm.trans out) _
  · refine congrArg Host.Outcome.next (State.request_refusing idle ?_)
    have value : field ([direction] ++ beBytes 2 number.toNat) 1 2 = number.toNat := (field_cons _ _ 0 2).trans (field_word_alone 2 number (by decide))
    rw [State.feedFind, value]
    refine (if_pos (by simp)).trans ?_
    rw [List.singleton_append, byteAt_zero]
    obtain wrong | wrong := wrong
    · rw [directionOf_none_iff.2 wrong]
      rfl
    · rw [feedNumberOf_none_iff.2 wrong]
      cases directionOf direction.toNat <;> rfl
  · refine ⟨?_, fun options => ⟨?_, ?_⟩, fun mask => ?_⟩ <;> refine congrArg Host.Outcome.next (State.request_refusing idle ?_)
    · exact ((s.taken _).ofLength_self [slot] _).trans (State.parsed_of_none _ (indexOf_byte_ge [] beyond) _)
    · exact ((s.taken _).ofLength_self [slot, options] _).trans (State.parsed_of_none _ (indexOf_byte_ge [options] beyond) _)
    · exact ((s.taken _).ofLength_self [slot, options] _).trans (State.parsed_of_none _ (indexOf_byte_ge [options] beyond) _)
    · exact (State.feedSet_in _ rfl).trans (State.parsed_of_none _ (parseSetIn_none_iff.2 (.inl beyond)) _)
  · exact congrArg Host.Outcome.next (State.request_refusing idle ((State.feedSet_in _ rfl).trans (State.parsed_of_none _ (parseSetIn_none_iff.2 (.inr empty)) _)))
  · subst named
    refine ⟨fun closed => ⟨?_, fun options => ?_, fun mask masked => ?_⟩, fun opened toward options => ?_, fun opened toward mask => ?_⟩ <;>
      refine congrArg Host.Outcome.next (State.request_refusing idle ?_)
    · exact ((s.taken _).ofLength_self [byteOf k.val] _).trans ((State.parsed_of (indexOf_byteOf k []) _).trans (State.checkFeed_closed (s := s.taken _) closed _))
    · exact (State.read_spelled _ options (indexOf_byteOf k [options]) _).trans (State.checkFeed_closed (s := s.taken _) closed _)
    · exact ((State.feedSet_in _ rfl).trans (State.parsed_of (parseSetIn_named k masked) _)).trans (State.checkDirection_closed (s := s.taken _) closed _ _)
    · exact (State.read_spelled _ options (indexOf_byteOf k [options]) _).trans (State.rankOf_inbound (s := s.taken _) opened toward)
    · refine (State.feedSet_in _ rfl).trans ?_
      by_cases empty : mask.setWidth 4 = 0#4
      · exact State.parsed_of_none _ (parseSetIn_none_iff.2 (.inr empty)) _
      · refine (State.parsed_of (parseSetIn_named k empty) _).trans (State.checkDirection_other (s := s.taken _) opened ?_ _)
        exact fun inb => by cases toward.symm.trans inb

end Sys2Proof.Machine
end

section
/-! FEED-SET (R80, R91). -/

namespace Sys2Proof.Machine

/-- A field carried in its coding is the value it spells, or is not carried. -/
theorem carried_some {α : Type} (presence : Byte) (k : Nat) {value : Option α} {x : α} (h : value = some x) :
    carried presence.toNat k value = some (if presence.getLsbD k = true then some x else none) := by
  rw [carried_eq, h]
  split <;> rfl

theorem carriedValue_eq {α : Type} (presence : Byte) (k : Nat) (v : α) : carriedValue presence.toNat k v = if presence.getLsbD k = true then some v else none := by
  rw [carriedValue, BitVec.testBit_toNat]

theorem ite_some_getD {α : Type} (p : Prop) [Decidable p] (x d : α) : (if p then some x else none).getD d = if p then x else d := by
  split <;> rfl

/-- An OUTBOUND FEED-SET on a feed: its fields written, and a lead outside the path set made absent with its notice (R80, R91). -/
theorem State.applySetOut_eq (s : State) (k : FeedSlot) (r : SetOutRequest) :
    let o := (s.feeds.get k).out
    let lead := keepMember (s.setPaths o r) o.lead
    s.applySetOut k r = ({ s with
        feeds := s.feeds.set k { s.feeds.get k with out := { s.setOut o r with lead := lead } }
        nu := if lead = o.lead then s.nu else s.nu.take ⟨k, (s.feeds.get k).number, o.lead, none, .pathGone, s.tb.time⟩ },
      doneOr (s.setDropped o r) (OutFields.setReply { s.setOut o r with lead := lead })) := by
  intro o lead
  have self : (s.onOut k fun o => s.setOut o r).feeds.get k = { s.feeds.get k with out := s.setOut o r } := Table.get_modify_self _ _ _
  have feeds : (s.onOut k fun o => s.setOut o r).feeds = s.feeds.set k { s.feeds.get k with out := s.setOut o r } := rfl
  unfold State.applySetOut
  dsimp only
  obtain ⟨kept, e⟩ | ⟨gone, led, e⟩ := (s.onOut k fun o => s.setOut o r).dropLead_cases k <;> rw [e]
  · rw [self] at kept ⊢
    have same : lead = o.lead := kept
    rw [if_pos same, same]
    rfl
  · rw [self] at gone led ⊢
    have none : lead = none := gone
    have moved : ¬ lead = o.lead := fun same => led (same.symm.trans none)
    rw [if_neg moved, Table.get_modify_self, self, Table.modify, self, feeds, Table.set_set, none]
    rfl

/-- Settles O16: the form is read back, and the fields, pin and lead are those FEED-SET leaves. -/
theorem feedSetWritesTheCarriedFields : Obligations.FeedSetWritesTheCarriedFields := by
  refine ⟨fun s k mask idle opened toward masked => ?_, fun s k presence set kept two pin rate urgency ceiling idle opened toward keptIs => ?_⟩
  · refine congrArg Host.Outcome.next (State.request_eq (t := s.onInb k fun i => { i with mask := mask.setWidth 4 }) (r := done [byteOf (mask.setWidth 4).toNat]) idle ?_)
    exact ((State.feedSet_in _ rfl).trans (State.parsed_of (parseSetIn_named k masked) _)).trans (State.checkDirection_taken (s := s.taken _) opened toward _)
  · intro body old newSet newPin newLead
    let r : SetOutRequest :=
      { pathSet := if presence.getLsbD 0 = true then some set else none
        twoCopies := if presence.getLsbD 1 = true then some two else none
        pin := if presence.getLsbD 2 = true then some pin else none
        rateLimit := if presence.getLsbD 3 = true then some rate else none
        defaultUrgency := if presence.getLsbD 4 = true then some urgency else none
        ceiling := if presence.getLsbD 5 = true then some ceiling else none }
    have form : parseSetOut body = some (k, r) := by
      refine (parseSetOut_eq (byteOf k.val) presence set (if two then 2 else 1) (slotByteOf pin) rate urgency.byte ceiling.byte).trans ?_
      rw [toNat_byteOf_fin k, indexOf_fin, carried_some presence 1 (copiesOf_byte two), carried_some presence 2 (optionalSlot_slotByteOf pin),
        carried_some presence 4 (urgencyOf_byte urgency), carried_some presence 5 (urgencyOf_byte ceiling), carriedValue_eq, carriedValue_eq]
      rfl
    have live : (s.taken body).livePaths set = kept := State.livePaths_eq (s := s.taken body) keptIs
    have paths : (s.taken body).setPaths old r = newSet := by
      change (Option.map _ (if _ then _ else _)).getD _ = if _ then _ else _
      split
      · exact live
      · rfl
    have out : (s.taken body).setOut old r = { old with
        pathSet := newSet
        twoCopies := if presence.getLsbD 1 then two else old.twoCopies
        pin := newPin
        rateLimit := if presence.getLsbD 3 then rate else old.rateLimit
        defaultUrgency := if presence.getLsbD 4 then urgency else old.defaultUrgency
        ceiling := if presence.getLsbD 5 then ceiling else old.ceiling } := by
      rw [State.setOut, paths]
      simp only [r, ite_some_getD]
      rfl
    have dropped : (s.taken body).setDropped old r = true ↔ (presence.getLsbD 0 = true ∧ kept ≠ set) ∨ newPin ≠ (if presence.getLsbD 2 then pin else old.pin) := by
      have cleaned : r.pathSet.any (fun set => (s.taken body).livePaths set ≠ set) = true ↔ presence.getLsbD 0 = true ∧ kept ≠ set := by
        change (if _ then _ else _ : Option (FlagSet 32)).any _ = true ↔ _
        split
        · next bit => simp [bit, live]
        · next bit => exact iff_of_false (by simp) fun h => bit h.1
      have pinned : r.pin.getD old.pin = if presence.getLsbD 2 = true then pin else old.pin := ite_some_getD ..
      rw [State.setDropped, out, pinned, Bool.or_eq_true, cleaned, decide_eq_true_eq]
    let newOut : OutFields := { old with
      pathSet := newSet
      twoCopies := if presence.getLsbD 1 then two else old.twoCopies
      pin := newPin
      rateLimit := if presence.getLsbD 3 then rate else old.rateLimit
      defaultUrgency := if presence.getLsbD 4 then urgency else old.defaultUrgency
      ceiling := if presence.getLsbD 5 then ceiling else old.ceiling
      lead := newLead }
    have lead : keepMember ((s.taken body).setPaths old r) old.lead = newLead := congrArg (keepMember · old.lead) paths
    let reply : Reply := ⟨if (presence.getLsbD 0 = true ∧ kept ≠ set) ∨ newPin ≠ (if presence.getLsbD 2 then pin else old.pin) then .adjusted else .done,
      beBytes 4 newSet.toNat ++ [slotByteOf newPin, slotByteOf newLead]⟩
    have run : (s.taken body).applySetOut k r = ({ s.taken body with
          feeds := s.feeds.set k { s.feeds.get k with out := newOut }
          nu := if newLead = old.lead then s.nu else s.nu.take ⟨k, (s.feeds.get k).number, old.lead, none, .pathGone, s.tb.time⟩ },
        reply) := by
      have applied := (s.taken body).applySetOut_eq k r
      change _ = ((_ : State), doneOr ((s.taken body).setDropped old r) _) at applied
      rw [doneOr_eq dropped] at applied
      refine applied.trans ?_
      dsimp only [reply]
      rw [← optionalSlotByte_eq, ← optionalSlotByte_eq]
      change (({ s.taken body with
          feeds := s.feeds.set k { s.feeds.get k with out := { (s.taken body).setOut old r with lead := keepMember ((s.taken body).setPaths old r) old.lead } }
          nu := if keepMember ((s.taken body).setPaths old r) old.lead = old.lead then s.nu
            else s.nu.take ⟨k, (s.feeds.get k).number, old.lead, none, .pathGone, s.tb.time⟩ } : State),
        (⟨_, OutFields.setReply { (s.taken body).setOut old r with lead := keepMember ((s.taken body).setPaths old r) old.lead }⟩ : Reply)) = _
      rw [lead, out]
      rfl
    exact congrArg Host.Outcome.next (State.request_eq (t := { s with
        feeds := s.feeds.set k { s.feeds.get k with out := newOut }
        nu := if newLead = old.lead then s.nu else s.nu.take ⟨k, (s.feeds.get k).number, old.lead, none, .pathGone, s.tb.time⟩ }) (r := reply) idle
      ((State.feedSet_out body rfl).trans ((State.parsed_of form _).trans ((State.checkDirection_taken (s := s.taken body) opened toward _).trans run))))

end Sys2Proof.Machine
end

section
/-! SYSTEM-SET and LINE-SET (R104, R106, R112, R172). -/

namespace Sys2Proof.Machine

/-! ### The codings of their fields (11.5) -/

theorem shareOf_byte : ∀ {b : Byte}, b.toNat ≤ 1 → shareOf b.toNat = some (if b = 1 then .isolated else .shared) := by decide

theorem shareOf_none_iff : ∀ {b : Byte}, shareOf b.toNat = none ↔ 1 < b.toNat := by decide

theorem enableOf_byte : ∀ {b : Byte}, b.toNat ≤ 1 → enableOf b.toNat = some (b == 1) := by decide

theorem enableOf_none_iff : ∀ {b : Byte}, enableOf b.toNat = none ↔ 1 < b.toNat := by decide

theorem ratioOf_byte : ∀ {b : Byte}, b.toNat ≤ 3 → ratioOf b.toNat = some (if b = 0 then .strict else if b = 1 then .eight else if b = 2 then .four else .two) := by decide

theorem ratioOf_none_iff : ∀ {b : Byte}, ratioOf b.toNat = none ↔ 3 < b.toNat := by decide

/-- Presence bits of any width (R171). -/
theorem carried_word {α : Type} {w : Nat} (presence : BitVec w) (k : Nat) (value : Option α) :
    carried presence.toNat k value = if presence.getLsbD k = true then value.map some else some none := by
  rw [carried, BitVec.testBit_toNat]

theorem carried_word_none_iff {α : Type} {w : Nat} {presence : BitVec w} {k : Nat} {value : Option α} :
    carried presence.toNat k value = none ↔ presence.getLsbD k = true ∧ value = none := by
  rw [carried_word]
  split <;> simp [*]

theorem carried_word_some {α : Type} {w : Nat} {presence : BitVec w} {k : Nat} {value : Option α} {x : α} (h : presence.getLsbD k = true → value = some x) :
    carried presence.toNat k value = some (if presence.getLsbD k = true then some x else none) := by
  rw [carried_word]
  split
  · next bit => rw [h bit]; rfl
  · rfl

theorem carriedValue_word {α : Type} {w : Nat} (presence : BitVec w) (k : Nat) (v : α) :
    carriedValue presence.toNat k v = if presence.getLsbD k = true then some v else none := by
  rw [carriedValue, BitVec.testBit_toNat]

theorem keptValue_ite {α : Type} (clamp : α → α) (p : Prop) [Decidable p] (v old : α) :
    keptValue clamp (if p then some v else none) old = if p then clamp v else old := by
  split <;> rfl

/-! ### SYSTEM-SET (R172) -/

section System
variable (presence : BitVec 16) (trial : Byte) (tolerance : BitVec 32) (age : BitVec 16) (penalty : BitVec 32) (factor window fade marginal floor settle recovery : Byte)
  (margin : BitVec 32) (share reserve : Byte)

/-- The bytes of SYSTEM-SET (11.5). -/
def systemSetBytes : List Byte :=
  beBytes 2 presence.toNat ++ [trial] ++ beBytes 4 tolerance.toNat ++ beBytes 2 age.toNat ++ beBytes 4 penalty.toNat
    ++ [factor, window, fade, marginal, floor, settle, recovery] ++ beBytes 4 margin.toNat ++ [share, reserve]

/-- The settings that SYSTEM-SET's bytes carry, with share mode and reserve as spelled. -/
def systemSetForm (mode : Option Share) (held : Option Bool) : SettingsRequest :=
  { trialCount := if presence.getLsbD 0 = true then some trial.toNat else none
    trialTolerance := if presence.getLsbD 1 = true then some tolerance.toNat else none
    ageLimit := if presence.getLsbD 2 = true then some age.toNat else none
    marginPenalty := if presence.getLsbD 3 = true then some penalty.toNat else none
    jitterFactor := if presence.getLsbD 4 = true then some factor.toNat else none
    windowLength := if presence.getLsbD 5 = true then some window.toNat else none
    fadeThreshold := if presence.getLsbD 6 = true then some fade.toNat else none
    marginalThreshold := if presence.getLsbD 7 = true then some marginal.toNat else none
    gradeFloor := if presence.getLsbD 8 = true then some floor.toNat else none
    settleWindows := if presence.getLsbD 9 = true then some settle.toNat else none
    recoveryWindows := if presence.getLsbD 10 = true then some recovery.toNat else none
    switchMargin := if presence.getLsbD 11 = true then some margin.toNat else none
    share := mode
    reserve := held }

theorem parseSystemSet_eq :
    parseSystemSet (systemSetBytes presence trial tolerance age penalty factor window fade marginal floor settle recovery margin share reserve) = (do
      let mode ← carried presence.toNat 12 (shareOf share.toNat)
      let held ← carried presence.toNat 13 (enableOf reserve.toNat)
      pure (systemSetForm presence trial tolerance age penalty factor window fade marginal floor settle recovery margin mode held)) := by
  rw [parseSystemSet, if_neg (by simp [systemSetBytes])]
  simp only [systemSetBytes, byteAt, List.append_assoc, List.cons_append, List.nil_append, field_cons, field_cons_zero_one, field_behind, Nat.reduceSub, Nat.reduceLeDiff,
    Nat.le_refl, field_word 2 presence _ (by decide), field_word 4 tolerance _ (by decide), field_word 2 age _ (by decide), field_word 4 penalty _ (by decide),
    field_word 4 margin _ (by decide), carriedValue_word, systemSetForm]

section Kept
variable {old : Settings} (h : old.InRange) (mode : Option Share) (held : Option Bool)

/-- The settings that SYSTEM-SET keeps (R74, R172). -/
def systemSetKept (old : Settings) (mode : Option Share) (held : Option Bool) : Settings :=
  let f := if presence.getLsbD 6 then max 1 fade.toNat else old.fadeThreshold
  let m := if presence.getLsbD 7 then marginal.toNat else old.marginalThreshold
  { trialCount := if presence.getLsbD 0 then max 1 (min trial.toNat 64) else old.trialCount
    trialTolerance := if presence.getLsbD 1 then min tolerance.toNat 5000000 else old.trialTolerance
    ageLimit := if presence.getLsbD 2 then max 10 (min age.toNat 4000) else old.ageLimit
    marginPenalty := if presence.getLsbD 3 then min penalty.toNat 1000000 else old.marginPenalty
    jitterFactor := if presence.getLsbD 4 then min factor.toNat 3 else old.jitterFactor
    windowLength := if presence.getLsbD 5 then max 1 window.toNat else old.windowLength
    fadeThreshold := f
    marginalThreshold := min (max 1 m) f
    gradeFloor := if presence.getLsbD 8 then min floor.toNat 7 else old.gradeFloor
    settleWindows := if presence.getLsbD 9 then max 1 settle.toNat else old.settleWindows
    recoveryWindows := if presence.getLsbD 10 then max 1 recovery.toNat else old.recoveryWindows
    switchMargin := if presence.getLsbD 11 then min margin.toNat 1000000 else old.switchMargin
    share := mode.getD old.share
    reserve := held.getD old.reserve }

theorem clampNat_byte (b : Byte) : clampNat 1 255 b.toNat = max 1 b.toNat := by
  have := b.isLt
  unfold clampNat
  omega

theorem clampNat_eq (lo hi v : Nat) : clampNat lo hi v = max lo (min v hi) := congrArg _ (min_comm ..)

include h in
theorem systemSetForm_kept : (systemSetForm presence trial tolerance age penalty factor window fade marginal floor settle recovery margin mode held).kept old
    = systemSetKept presence trial tolerance age penalty factor window fade marginal floor settle recovery margin old mode held := by
  obtain ⟨-, -, -, -, -, -, -, -, -, low, -, -, -⟩ := h
  have threshold : (if presence.getLsbD 7 = true then max 1 marginal.toNat else old.marginalThreshold)
      = max 1 (if presence.getLsbD 7 = true then marginal.toNat else old.marginalThreshold) := by
    split <;> omega
  unfold SettingsRequest.kept systemSetForm systemSetKept
  simp only [keptValue_ite, clampNat_byte, clampNat_zero, threshold, clampNat_eq 1 64, clampNat_eq 10 4000]

/-- The values that SYSTEM-SET carries, before they are brought into range, are the settings' own beside them. -/
theorem systemSetForm_given : (systemSetForm presence trial tolerance age penalty factor window fade marginal floor settle recovery margin mode held).given old =
  { trialCount := if presence.getLsbD 0 then trial.toNat else old.trialCount
    trialTolerance := if presence.getLsbD 1 then tolerance.toNat else old.trialTolerance
    ageLimit := if presence.getLsbD 2 then age.toNat else old.ageLimit
    marginPenalty := if presence.getLsbD 3 then penalty.toNat else old.marginPenalty
    jitterFactor := if presence.getLsbD 4 then factor.toNat else old.jitterFactor
    windowLength := if presence.getLsbD 5 then window.toNat else old.windowLength
    fadeThreshold := if presence.getLsbD 6 then fade.toNat else old.fadeThreshold
    marginalThreshold := if presence.getLsbD 7 then marginal.toNat else old.marginalThreshold
    gradeFloor := if presence.getLsbD 8 then floor.toNat else old.gradeFloor
    settleWindows := if presence.getLsbD 9 then settle.toNat else old.settleWindows
    recoveryWindows := if presence.getLsbD 10 then recovery.toNat else old.recoveryWindows
    switchMargin := if presence.getLsbD 11 then margin.toNat else old.switchMargin
    share := mode.getD old.share
    reserve := held.getD old.reserve } := by
  unfold SettingsRequest.given systemSetForm
  simp only [ite_some_getD]

/-- A marginal threshold held to at most F is moved where it lies outside 1 to F (R74). -/
theorem thresholdMoved {f m : Nat} (positive : 1 ≤ f) : ¬ min (max 1 m) f = m ↔ m < 1 ∨ f < m := by omega

theorem ite_ne_ite_iff {α : Type} (p : Prop) [Decidable p] (a b c : α) : ¬ (if p then a else c) = (if p then b else c) ↔ p ∧ a ≠ b := by
  split <;> simp [*]

include h in
/-- Whether SYSTEM-SET brought a value into range (R74, R172). -/
theorem systemSetForm_adjusted :
    let f := if presence.getLsbD 6 then max 1 fade.toNat else old.fadeThreshold
    let m := if presence.getLsbD 7 then marginal.toNat else old.marginalThreshold
    (systemSetForm presence trial tolerance age penalty factor window fade marginal floor settle recovery margin mode held).adjusted old = true ↔
    (presence.getLsbD 0 = true ∧ (trial.toNat < 1 ∨ 64 < trial.toNat))
      ∨ (presence.getLsbD 1 = true ∧ 5000000 < tolerance.toNat)
      ∨ (presence.getLsbD 2 = true ∧ (age.toNat < 10 ∨ 4000 < age.toNat))
      ∨ (presence.getLsbD 3 = true ∧ 1000000 < penalty.toNat)
      ∨ (presence.getLsbD 4 = true ∧ 3 < factor.toNat)
      ∨ (presence.getLsbD 5 = true ∧ window.toNat < 1)
      ∨ (presence.getLsbD 6 = true ∧ fade.toNat < 1)
      ∨ m < 1 ∨ f < m
      ∨ (presence.getLsbD 8 = true ∧ 7 < floor.toNat)
      ∨ (presence.getLsbD 9 = true ∧ settle.toNat < 1)
      ∨ (presence.getLsbD 10 = true ∧ recovery.toNat < 1)
      ∨ (presence.getLsbD 11 = true ∧ 1000000 < margin.toNat) := by
  intro f m
  rw [SettingsRequest.adjusted, systemSetForm_kept (h := h), decide_eq_true_eq]
  have below {v hi : Nat} : ¬ min v hi = v ↔ hi < v := by omega
  have above {v lo : Nat} : ¬ max lo v = v ↔ v < lo := by omega
  have trialMoved : ¬ max 1 (min trial.toNat 64) = trial.toNat ↔ trial.toNat < 1 ∨ 64 < trial.toNat := by omega
  have ageMoved : ¬ max 10 (min age.toNat 4000) = age.toNat ↔ age.toNat < 10 ∨ 4000 < age.toNat := by omega
  obtain ⟨-, -, -, -, -, -, -, -, -, low, high, -, -⟩ := h
  have positive : 1 ≤ f := by
    dsimp only [f]
    split
    · exact le_max_left _ _
    · exact low.trans high
  rw [systemSetForm_given, systemSetKept]
  simp only [ne_eq, Settings.mk.injEq, not_and_or, ite_ne_ite_iff, below, above, trialMoved, ageMoved, thresholdMoved positive, not_true, or_false, or_assoc, f, m]

end Kept

end System

theorem Settings.bytes_eq (x : Settings) : x.bytes = [byteOf x.trialCount] ++ beBytes 4 x.trialTolerance ++ beBytes 2 x.ageLimit ++ beBytes 4 x.marginPenalty
    ++ [byteOf x.jitterFactor, byteOf x.windowLength, byteOf x.fadeThreshold, byteOf x.marginalThreshold, byteOf x.gradeFloor, byteOf x.settleWindows, byteOf x.recoveryWindows]
    ++ beBytes 4 x.switchMargin ++ [x.share.byte, if x.reserve then 1 else 0] := by
  simp only [Settings.bytes, beBytes_one, flagByte, List.append_assoc, List.cons_append, List.nil_append]

/-- Settles O22: the form is read back, and the settings written are those brought into range. -/
theorem systemSetWritesTheSettings : Obligations.SystemSetWritesTheSettings := by
  intro s presence trial tolerance age penalty factor window fade marginal floor settle recovery margin share reserve idle range body old f m new
  have parse := parseSystemSet_eq presence trial tolerance age penalty factor window fade marginal floor settle recovery margin share reserve
  refine ⟨fun wrong => ?_, fun shareOk reserveOk => ?_⟩
  · refine congrArg Host.Outcome.next (State.request_refusing idle (State.parsed_of_none _ (parse.trans ?_) _))
    rw [bind_eq_none_of fun _ => bind_eq_none_of (p := False) fun _ => by simp]
    rw [carried_word_none_iff, carried_word_none_iff, shareOf_none_iff, enableOf_none_iff, or_false]
    exact wrong
  · let mode := if presence.getLsbD 12 = true then some (if share = 1 then Share.isolated else Share.shared) else none
    let held := if presence.getLsbD 13 = true then some (reserve == 1) else none
    let r := systemSetForm presence trial tolerance age penalty factor window fade marginal floor settle recovery margin mode held
    have form : parseSystemSet body = some r := by
      refine parse.trans ?_
      rw [carried_word_some fun bit => shareOf_byte (shareOk bit), carried_word_some fun bit => enableOf_byte (reserveOk bit)]
      rfl
    have kept : r.kept old = new := by
      refine (systemSetForm_kept presence trial tolerance age penalty factor window fade marginal floor settle recovery margin range mode held).trans ?_
      simp only [systemSetKept, mode, held, ite_some_getD]
      rfl
    have adjusted : r.adjusted (s.taken body).settings = true ↔ _ :=
      systemSetForm_adjusted presence trial tolerance age penalty factor window fade marginal floor settle recovery margin range mode held
    refine congrArg Host.Outcome.next ((State.request_eq (t := { s with settings := r.kept old }) idle ((State.parsed_of form _).trans rfl)).trans ?_)
    rw [doneOr_eq adjusted, show r.kept (s.taken body).settings = new from kept, kept, Settings.bytes_eq]
    rfl

/-! ### LINE-SET (R112) -/

/-- A request whose effect ends in the issue of due soundings and a frame boundary: its answer stands in the port meanwhile (R165). -/
theorem request_serve_boundary {s u : State} {r : Reply} {l : Line} (idle : s.cmp.engine = .idle) {code : Byte} {body : List Byte} {run : State → State × Reply}
    (hr : run (s.taken body) = ((u.withPort (s.taken body).cmp).serve.boundary l, r)) :
    s.request code body run = (u.withPort (s.answered body code r.result r.fields)).serve.boundary l := by
  let v := u.withPort (s.answered body code r.result r.fields)
  have running : (s.taken body).cmp.engine.resetting = v.resetting := by
    change s.cmp.engine.resetting = false
    rw [idle]; rfl
  have served : v.serve.resetting = v.resetting := by rw [State.resetting, (State.serve_onlySends v).cmp]; rfl
  have moved : (u.withPort (s.taken body).cmp).serve.boundary l = (v.serve.boundary l).withPort (s.taken body).cmp := by
    rw [show u.withPort (s.taken body).cmp = v.withPort (s.taken body).cmp from rfl, v.serve_withPort _ running, v.serve.boundary_withPort _ (running.trans served.symm)]
  have port : (v.serve.boundary l).cmp = v.cmp := (State.boundary_onlySends v.serve l).cmp.trans (State.serve_onlySends v).cmp
  rw [moved] at hr
  rw [State.request_eq idle hr]
  change (v.serve.boundary l).withPort v.cmp = v.serve.boundary l
  rw [← port, State.withPort_self]

/-- LINE-SET's form (R112). -/
theorem parseLineSet_eq (line presence tx rx ratio : Byte) : parseLineSet [line, presence, tx, rx, ratio] = (do
    let line ← indexOf 6 line.toNat
    let tx ← carried presence.toNat 0 (enableOf tx.toNat)
    let rx ← carried presence.toNat 1 (enableOf rx.toNat)
    let ratio ← carried presence.toNat 2 (ratioOf ratio.toNat)
    pure ⟨line, tx, rx, ratio⟩) := by
  rw [parseLineSet, if_neg (by simp)]
  simp only [byteAt, field_cons, field_cons_zero_one]

/-- Settles O23: the form is read back; transmit turned on hands the line to SU and LT, with the answer in the port. -/
theorem lineSetWritesTheSettings : Obligations.LineSetWritesTheSettings := by
  intro s line presence tx rx ratio idle body
  have parse := parseLineSet_eq line presence tx rx ratio
  refine ⟨fun wrong => ?_, ?_⟩
  · refine congrArg Host.Outcome.next (State.request_refusing idle (State.parsed_of_none _ (parse.trans ?_) _))
    rw [bind_eq_none_of fun _ => bind_eq_none_of fun _ => bind_eq_none_of fun _ => bind_eq_none_of (p := False) fun _ => by simp]
    rw [indexOf_none_iff, carried_none_iff, carried_none_iff, carried_none_iff, enableOf_none_iff, enableOf_none_iff, ratioOf_none_iff, or_false]
    exact wrong
  · intro l named txOk rxOk ratioOk old new t
    let mode : Ratio := if ratio = 0 then .strict else if ratio = 1 then .eight else if ratio = 2 then .four else .two
    let r : LineSetRequest :=
      { line := l
        txEnable := if presence.getLsbD 0 = true then some (tx == 1) else none
        rxEnable := if presence.getLsbD 1 = true then some (rx == 1) else none
        ratio := if presence.getLsbD 2 = true then some mode else none }
    have form : parseLineSet body = some r := by
      refine parse.trans ?_
      rw [named, toNat_byteOf_fin l, indexOf_fin, carried_word_some fun bit => enableOf_byte (txOk bit), carried_word_some fun bit => enableOf_byte (rxOk bit),
        carried_word_some fun bit => ratioOf_byte (ratioOk bit)]
      rfl
    have strict : r.ratio = some .strict ↔ (presence.getLsbD 2 && ratio == 0) = true := by
      dsimp only [r, mode]
      split
      · next bit =>
        rw [bit]
        simp only [Option.some.injEq, Bool.true_and, beq_iff_eq]
        split_ifs <;> simp_all
      · next bit => exact iff_of_false (by simp) fun h => bit (Bool.and_eq_true_iff.1 h).1
    have written : old.withSettings r = new := by
      unfold LinePort.withSettings
      simp only [if_congr strict rfl rfl]
      simp only [r, ite_some_getD]
      rfl
    let w : State := { s with lines := s.lines.set l new }
    have set : (s.taken body).onLine l (·.withSettings r) = w.withPort (s.taken body).cmp :=
      congrArg (fun p => ({ s.taken body with lines := s.lines.set l p } : State)) written
    have self : ((w.withPort (s.taken body).cmp).lines.get l).txEnable = new.txEnable := congrArg LinePort.txEnable (Table.get_set_self ..)
    have run : (s.taken body).setLine r = (if old.txEnable = false ∧ new.txEnable = true then (w.withPort (s.taken body).cmp).serve.boundary l
        else w.withPort (s.taken body).cmp, done []) := by
      unfold State.setLine
      dsimp only
      rw [show (s.taken body).onLine r.line (·.withSettings r) = w.withPort (s.taken body).cmp from set]
      refine congrArg (·, done []) (if_congr ?_ rfl rfl)
      rw [Bool.and_eq_true, Bool.not_eq_true', show ((w.withPort (s.taken body).cmp).lines.get r.line).txEnable = new.txEnable from self]
      rfl
    by_cases turned : old.txEnable = false ∧ new.txEnable = true
    · rw [if_pos turned] at run ⊢
      exact congrArg Host.Outcome.next (request_serve_boundary (u := w) (r := done []) idle ((State.parsed_of form _).trans run))
    · rw [if_neg turned] at run ⊢
      exact congrArg Host.Outcome.next (State.request_eq (t := w) (r := done []) idle ((State.parsed_of form _).trans run))

end Sys2Proof.Machine
end

section
/-! The frame boundary: what it starts, with its bytes, and the ends of transmissions and local sendings (R30, R38, R104 to R108, R126). -/

namespace Sys2Proof.Machine

/-! ### The boundary's branches (R104, R106) -/

section Boundary
variable {s : State} {l : Line}

theorem LinePort.settled_eq (p : LinePort) : p.settled = { p with ratioCount := if p.normal = [] then 0 else p.ratioCount } := by
  unfold LinePort.settled
  split <;> rfl

/-- A line written and then changed (rule of the line table). -/
theorem State.onLine_set (s : State) (l : Line) (p : LinePort) (f : LinePort → LinePort) :
    ({ s with lines := s.lines.set l p } : State).onLine l f = { s with lines := s.lines.set l (f p) } := by
  change ({ s with lines := (s.lines.set l p).set l (f ((s.lines.set l p).get l)) } : State) = _
  rw [Table.get_set_self, Table.set_set]

theorem State.boundary_of_sending (sending : (s.lines.get l).tx ≠ none) : s.boundary l = s := by
  obtain ⟨-, same⟩ | ⟨idle, -⟩ | ⟨idle, -⟩ := s.boundary_cases l
  · exact same
  · exact absurd idle sending
  · exact absurd idle sending

theorem State.boundary_of_unusable (running : s.resetting = false) (idle : (s.lines.get l).tx = none) (unusable : (s.lines.get l).usable = false) :
    s.boundary l = { s with lines := s.lines.set l (s.lines.get l).settled } := by
  obtain ⟨sending | resetting, -⟩ | ⟨-, -, -, same⟩ | ⟨-, -, usable, -⟩ := s.boundary_cases l
  · exact absurd idle sending
  · cases running.symm.trans resetting
  · exact same
  · cases unusable.symm.trans usable

theorem State.boundary_of_usable (running : s.resetting = false) (idle : (s.lines.get l).tx = none) (usable : (s.lines.get l).usable = true) :
    s.boundary l = ({ s with lines := s.lines.set l (s.lines.get l).settled } : State).startNext l := by
  obtain ⟨sending | resetting, -⟩ | ⟨-, -, unusable, -⟩ | ⟨-, -, -, same⟩ := s.boundary_cases l
  · exact absurd idle sending
  · cases running.symm.trans resetting
  · cases unusable.symm.trans usable
  · exact same

/-! ### What starts on a line of record `p` (R104, R105) -/

section Start
variable {p : LinePort}

theorem State.startNext_echo {e : EchoEntry} {rest : List EchoEntry} (h : p.echoes = e :: rest) :
    ({ s with lines := s.lines.set l p } : State).startNext l = { s with lines := s.lines.set l { p with
      echoes := rest
      tx := some (p.sending s.clock (.echo e.tag e.id e.voided (e.residence s.tb.time)) 1)
      counters := { p.counters with echoesSent := bump p.counters.echoesSent } } } := by
  unfold State.startNext
  rw [Table.get_set_self, h]
  exact State.onLine_set s l p _

theorem State.startNext_sound {e : SoundEntry} {rest : List SoundEntry} {x : Context} (noEcho : p.echoes = []) (h : p.sounds = e :: rest)
    (held : s.su.contexts.get e.context = some x) :
    ({ s with lines := s.lines.set l p } : State).startNext l = { s with
      lines := s.lines.set l { p with sounds := rest, tx := some (p.sending s.clock (.sound e.tag e.id) 1) }
      su := { s.su with contexts := s.su.contexts.set e.context (some (x.depart s.tb.time)) }
      paths := s.paths.set x.path { s.paths.get x.path with counters := { (s.paths.get x.path).counters with
        soundingsSent := bump (s.paths.get x.path).counters.soundingsSent } } } := by
  have started : ({ s with lines := s.lines.set l p } : State).startNext l = ({ s with lines := s.lines.set l p } : State).startSound l e rest := by
    unfold State.startNext
    rw [Table.get_set_self, noEcho, h]
  rw [started]
  unfold State.startSound
  rw [State.onLine_set]
  dsimp only
  rw [held]
  rfl

theorem State.startNext_nothing (noEcho : p.echoes = []) (noSound : p.sounds = []) (noTraffic : p.choose = none) :
    ({ s with lines := s.lines.set l p } : State).startNext l = { s with lines := s.lines.set l p } := by
  unfold State.startNext
  rw [Table.get_set_self, noEcho, noSound, noTraffic]

theorem State.startNext_traffic {c : Urgency} (noEcho : p.echoes = []) (noSound : p.sounds = []) (chosen : p.choose = some c) :
    ({ s with lines := s.lines.set l p } : State).startNext l = { s with lines := s.lines.set l (p.startTraffic s.clock c) } := by
  unfold State.startNext
  rw [Table.get_set_self, noEcho, noSound, chosen]
  exact State.onLine_set s l p _

end Start

/-! ### The class the ratio picks (R105, R106) -/

section Choose
variable {p : LinePort}

/-- The URGENT frames that a ratio lets go in a row, in the order of its codes (R105, 11.5). -/
theorem Ratio.limit_eq (r : Ratio) : r.limit = if r = .strict then none else some ([0, 8, 4, 2][r.byte.toNat]!) := by cases r <;> rfl

theorem LinePort.choose_none (urgent : p.urgent = []) (normal : p.normal = []) : p.choose = none := by
  unfold LinePort.choose
  rw [urgent, normal]

theorem LinePort.choose_urgent {f : QueuedFrame} {rest : List QueuedFrame} (urgent : p.urgent = f :: rest)
    (first : p.normal = [] ∨ p.ratio = .strict ∨ p.ratioCount < [0, 8, 4, 2][p.ratio.byte.toNat]!) : p.choose = some .urgent := by
  unfold LinePort.choose
  rw [urgent, Ratio.limit_eq]
  cases normal : p.normal with
  | nil => rfl
  | cons g more =>
    by_cases strict : p.ratio = .strict
    · simp [strict]
    · have few : ¬ [0, 8, 4, 2][p.ratio.byte.toNat]! ≤ p.ratioCount := by
        obtain empty | is | few := first
        · cases normal.symm.trans empty
        · exact absurd is strict
        · exact Nat.not_le.2 few
      simp only [strict, if_false]
      exact if_neg few

theorem LinePort.choose_normal {f : QueuedFrame} {rest : List QueuedFrame} (normal : p.normal = f :: rest)
    (first : p.urgent = [] ∨ (p.ratio ≠ .strict ∧ [0, 8, 4, 2][p.ratio.byte.toNat]! ≤ p.ratioCount)) : p.choose = some .normal := by
  unfold LinePort.choose
  rw [normal, Ratio.limit_eq]
  cases urgent : p.urgent with
  | nil => rfl
  | cons g more =>
    obtain empty | ⟨loose, many⟩ := first
    · cases urgent.symm.trans empty
    · simp only [loose, if_false]
      exact if_pos many

theorem LinePort.startTraffic_urgent {f : QueuedFrame} {rest : List QueuedFrame} (urgent : p.urgent = f :: rest) (clock : Nat) :
    p.startTraffic clock .urgent = { p with
      urgent := rest
      ratioCount := if p.normal = [] ∨ p.ratio = .strict then 0 else p.ratioCount + 1
      tx := some (p.sending clock (.traffic .urgent f) f.cells) } := by
  have count : p.ratioAfter .urgent = if p.normal = [] ∨ p.ratio = .strict then 0 else p.ratioCount + 1 := by
    unfold LinePort.ratioAfter
    rw [Ratio.limit_eq]
    by_cases strict : p.ratio = .strict
    · simp [strict]
    · simp [strict]
  rw [← count]
  unfold LinePort.startTraffic
  rw [urgent]

theorem LinePort.startTraffic_normal {f : QueuedFrame} {rest : List QueuedFrame} (normal : p.normal = f :: rest) (clock : Nat) :
    p.startTraffic clock .normal = { p with normal := rest, ratioCount := 0, tx := some (p.sending clock (.traffic .normal f) f.cells) } := by
  have count : p.ratioAfter .normal = 0 := by
    unfold LinePort.ratioAfter
    cases p.ratio <;> rfl
  rw [← count]
  unfold LinePort.startTraffic
  rw [normal]

end Choose

end Boundary

/-! ### The frames' bytes (R144, R145) -/

theorem soundFrameBytes_eq (tag : BitVec 12) (id : BitVec 16) :
    soundFrameBytes tag id = withHeaderCheck ([0x02] ++ beBytes 2 (tag.toNat * 16) ++ beBytes 2 id.toNat ++ [0, 0, 0, 0, 0, 0, 0, 0, 0]) := rfl

theorem echoFrameBytes_eq (tag : BitVec 12) (id : BitVec 16) (voided : Bool) (r : BitVec 32) : echoFrameBytes tag id voided r
    = withHeaderCheck ([0x03] ++ beBytes 2 (tag.toNat * 16 + (if voided then 8 else 0)) ++ beBytes 2 id.toNat ++ beBytes 4 r.toNat ++ [0, 0, 0, 0, 0]) := rfl

/-- A FEED frame's bytes (R144). -/
theorem feedFrameBytes_eq (f : QueuedFrame) : feedFrameBytes f =
    withHeaderCheck ([0x01] ++ beBytes 2 (f.copy.tag.toNat * 16 + (if f.copy.second then 8 else 0) + (match f.copy.urgency with | .normal => 0 | .urgent => 4))
      ++ [byteOf f.copy.kind.val] ++ beBytes 2 f.copy.number.toNat ++ beBytes 4 f.copy.sequence.toNat ++ beBytes 8 f.copy.origin.toNat
      ++ beBytes 2 f.copy.payload.length ++ beBytes 4 f.check.toNat ++ [0, 0, 0, 0, 0, 0]) ++ f.copy.payload := by
  have urgency : f.copy.urgency.bit * 4 = match f.copy.urgency with | .normal => 0 | .urgent => 4 := by cases f.copy.urgency <;> rfl
  unfold feedFrameBytes
  rw [urgency]
  rfl

theorem EchoEntry.residence_eq (e : EchoEntry) (t3 : Stamp) : e.residence t3 = if e.voided then 0 else if t3.toNat < e.t2.toNat then Config.residenceOf e.t2 t3
    else BitVec.ofNat 32 (min (t3.toNat - e.t2.toNat) (2 ^ 32 - 1)) := rfl

/-- Settles O42: the boundary of a line that can send is the start of what R105 chooses on its settled record. -/
theorem frameBoundaryChoosesTheFrame : Obligations.FrameBoundaryChoosesTheFrame := by
  refine ⟨fun s l sending => State.boundary_of_sending sending, fun s l running idle => ?_⟩
  intro p time ready feed
  have settled : (s.lines.get l).settled = p := LinePort.settled_eq _
  have timed (item : TxItem) (n : Nat) : p.sending s.clock item n = ⟨item, n, time, s.clock, item.bytes⟩ := by
    rw [LinePort.sending, cellTime_eq]
  have built (c : Urgency) (f : QueuedFrame) : (TxItem.traffic c f).bytes = feed f := feedFrameBytes_eq f
  have usable_iff : ready ↔ (s.lines.get l).usable = true := (LinePort.usable_iff _).symm
  have starts (h : ready) : s.boundary l = ({ s with lines := s.lines.set l p } : State).startNext l := settled ▸ State.boundary_of_usable running idle (usable_iff.1 h)
  refine ⟨fun unready => settled ▸ State.boundary_of_unusable running idle (by simpa using mt usable_iff.2 unready), fun h e rest echo => ?_,
    fun h noEcho e rest x sound held => ?_, fun h noEcho noSound => ⟨fun noUrgent noNormal => ?_, fun f rest urgent first => ?_, fun f rest normal first => ?_⟩⟩
  · rw [starts h, State.startNext_echo echo, timed, TxItem.bytes, echoFrameBytes_eq]
    rfl
  · rw [starts h, State.startNext_sound noEcho sound held, timed, TxItem.bytes, soundFrameBytes_eq]
    rfl
  · rw [starts h, State.startNext_nothing noEcho noSound (LinePort.choose_none noUrgent noNormal)]
  · rw [starts h, State.startNext_traffic noEcho noSound (LinePort.choose_urgent urgent first), LinePort.startTraffic_urgent urgent, timed, built]
  · rw [starts h, State.startNext_traffic noEcho noSound (LinePort.choose_normal normal first), LinePort.startTraffic_normal normal, timed, built]

/-! ### Ends of transmissions and of local sendings (R107, R108, R126) -/

section Ends
variable {s : State} {l : Line} {x : Sending}

theorem State.frameCompletion_of {ended : x.ended s.clock = true} (sending : (s.lines.get l).tx = some x) : s.frameCompletion l = (s.complete l x).boundary l := by
  unfold State.frameCompletion
  rw [sending]
  exact if_pos ended

theorem Sending.ended_iff : x.ended s.clock = true ↔ 2 * (x.cells * x.cellTime) ≤ 5 * (s.clock - x.started) := decide_eq_true_iff

/-- The completion of a control frame (R108). -/
theorem State.complete_control (control : ∀ q f, x.item ≠ .traffic q f) : s.complete l x = { s with lines := s.lines.set l { s.lines.get l with tx := none } } := by
  obtain ⟨-, same⟩ | ⟨q, f, item, -⟩ := s.complete_cases l x
  · exact same
  · exact absurd item (control q f)

/-- The completion of a traffic frame whose path is known (R108). -/
theorem State.complete_traffic {q : Urgency} {f : QueuedFrame} (item : x.item = .traffic q f) {i : PathSlot} (known : s.findPath l f.copy.tag = some i) :
    s.complete l x = (s.sent l f).dequeue i := by
  obtain ⟨control, -⟩ | ⟨q', f', item', ⟨lost, -⟩ | ⟨i', found, same⟩⟩ := s.complete_cases l x
  · exact absurd item (control q f)
  · cases item.symm.trans item'
    cases known.symm.trans lost
  · cases item.symm.trans item'
    cases known.symm.trans found
    exact same

end Ends

/-- Settles O43: a completion by the frame's kind and its path's life, and the end of a sending by the FIFO's head. -/
theorem completionsFreeTheSender : Obligations.CompletionsFreeTheSender := by
  refine ⟨fun s l early => ?_, fun s l x sending ended => ?_, fun s p empty => ?_, fun s p d rest fifo => ?_⟩
  · refine congrArg Host.Outcome.next ?_
    unfold State.frameCompletion
    cases sending : (s.lines.get l).tx with
    | none => rfl
    | some x => exact if_neg fun ended => absurd (Sending.ended_iff.1 ended) (Nat.not_le.2 (early x sending))
  · intro idle sent
    refine ⟨fun control => ?_, fun q f i item unique live line tag => ?_⟩
    · refine congrArg Host.Outcome.next ((State.frameCompletion_of (ended := Sending.ended_iff.2 ended) sending).trans ?_)
      rw [State.complete_control]
      obtain ⟨tag, id, item⟩ | ⟨tag, id, v, r, item⟩ := control <;> simp [item]
    · intro left u
      have known : s.findPath l f.copy.tag = some i := by
        rw [← line, ← tag]
        exact State.findPath_of_unique unique live
      have completed : exec (.frameCompletion l) s = .next (((s.sent l f).dequeue i).boundary l) :=
        congrArg Host.Outcome.next ((State.frameCompletion_of (ended := Sending.ended_iff.2 ended) sending).trans (congrArg (·.boundary l) (State.complete_traffic item known)))
      rw [completed]
      obtain ⟨withdrawing, last, e⟩ | ⟨stays, e⟩ := (s.sent l f).dequeue_cases i <;> rw [e]
      · refine ⟨fun _ _ => rfl, fun other => ?_⟩
        exact absurd ⟨withdrawing, last⟩ (not_and_or.2 other)
      · refine ⟨fun withdrawing last => ?_, fun _ => rfl⟩
        exact absurd ⟨withdrawing, last⟩ (not_and_or.2 stays)
  · refine congrArg Host.Outcome.next ?_
    unfold State.localSendEnd
    rw [empty]
  · refine congrArg Host.Outcome.next ?_
    unfold State.localSendEnd
    rw [fifo]
    rfl

end Sys2Proof.Machine
end

section
/-! A copy handed to LQM (R100 to R102). -/

namespace Sys2Proof.Machine
section Offer
variable {s : State} {k : FeedSlot} {i : PathSlot} {c : Copy}

/-- The test of R101 in the numbers of R100: cells of the pool that are free, and of the line's share. -/
theorem State.admits_iff {l : Line} {u : Urgency} {n : Nat} : s.admits l u n = true ↔
    (match u with | .urgent => n ≤ s.freeCells | .normal => n + s.reserveHeld ≤ s.freeCells)
      ∧ (s.settings.share = .isolated → (s.lines.get l).cells .urgent + (s.lines.get l).cells .normal + n ≤ 682) := by
  have share : (decide (s.settings.share = .shared) || decide ((s.lines.get l).total + n ≤ Config.isolatedCap)) = true
      ↔ (s.settings.share = .isolated → (s.lines.get l).cells .urgent + (s.lines.get l).cells .normal + n ≤ 682) := by
    change _ ↔ (_ → (s.lines.get l).total + n ≤ Config.isolatedCap)
    cases s.settings.share <;> simp
  unfold State.admits
  rw [Bool.and_eq_true, share]
  cases u <;> simp

theorem State.handOver_admitted {m : PathSlot} (found : s.findPath c.line c.tag = some m) (fits : s.admits c.line c.urgency c.queued.cells = true) :
    s.handOver k i c = (s.enqueue c m).countPath i fun x => { x with copiesSent := bump x.copiesSent } := by
  obtain ⟨n, foundN, -, same⟩ | ⟨lost | full, -⟩ := s.handOver_cases k i c
  · cases found.symm.trans foundN
    exact same
  · cases found.symm.trans lost
  · cases fits.symm.trans full

theorem State.handOver_dropped (refused : ∀ m, s.findPath c.line c.tag = some m → s.admits c.line c.urgency c.queued.cells = false) :
    s.handOver k i c = (s.countLine c.line fun x => { x with busyDrop := bump x.busyDrop }).countOut k (·.busy c.second) := by
  obtain ⟨m, found, fits, -⟩ | ⟨-, same⟩ := s.handOver_cases k i c
  · exact absurd fits (by rw [refused m found]; exact Bool.false_ne_true)
  · exact same

theorem LinePort.append_queued (p : LinePort) (c : Copy) :
    p.append c.queued = if c.urgency = .urgent then { p with urgent := p.urgent ++ [c.queued] } else { p with normal := p.normal ++ [c.queued] } := by
  obtain ⟨_, _, urgency⟩ := c
  cases urgency <;> rfl

end Offer

/-- Settles O54: with its path known and its test held the copy is enqueued, else it is a BUSY DROP. -/
theorem copiesAreAdmittedOrDropped : Obligations.CopiesAreAdmittedOrDropped := by
  unfold Obligations.CopiesAreAdmittedOrDropped
  intro s k i c p l cells held reserve fits known frame
  have test : s.admits c.line c.urgency c.queued.cells = true ↔ fits := by
    rw [State.admits_iff]
    simp only [fits]
    cases c.urgency <;> exact Iff.rfl
  refine ⟨fun unique live line tag fit => ?_, fun without => ?_⟩
  · have found : s.findPath c.line c.tag = some i := by
      rw [← line, ← tag]
      exact State.findPath_of_unique unique live
    rw [State.handOver_admitted found (test.2 fit), State.enqueue_eq]
    change (({ s with
      lines := s.lines.set c.line (l.append c.queued)
      freeCells := s.freeCells - cells
      paths := s.paths.set i { p with queued := p.queued + 1 } } : State).boundary c.line).countPath i _ = _
    rw [LinePort.append_queued]
    cases c.urgency <;> rfl
  · rw [State.handOver_dropped fun m found => ?_]
    · cases c.second <;> rfl
    · obtain unknown | unfit := without
      · obtain ⟨live, line, tag⟩ := Path.holds_iff.1 (State.findPath_some found).1
        exact absurd ⟨m, live, line, tag⟩ unknown
      · exact Bool.eq_false_iff.2 fun fit => unfit (test.1 fit)

end Sys2Proof.Machine
end

section
/-! Local frames: their bytes, and what a message that an OPEN OUTBOUND feed accepts sends (R84 to R94, R152). -/

namespace Sys2Proof.Machine

/-! ### Local frames and their fields (R152) -/

/-- A number comes back from its bytes, whatever follows (R171). -/
theorem field_beBytes {n v : Nat} (rest : List Byte) (h : v < 256 ^ n) : field (beBytes n v ++ rest) 0 n = v := by
  rw [field_append_left _ _ 0 n (by simp), field_whole _ n (length_beBytes n _), beValue_beBytes, Nat.mod_eq_of_lt h]

section Local
variable {s : State} {p : Port} {origin : Stamp}

theorem State.localFrame_badLength {bytes : List Byte} (running : s.resetting = false) (bad : bytes.length < 5 ∨ bytes.length ≠ 5 + field bytes 3 2) :
    s.localFrame p origin bytes = s.countPort p fun x => { x with badLength := bump x.badLength } := by
  rw [State.localFrame, if_neg (by simp [running])]
  exact if_pos (by simpa using bad)

/-- A local frame of the length that its own length field gives is handed to FE with its fields (R152). -/
theorem State.localFrame_formed (running : s.resetting = false) (number : BitVec 16) (high : Fin 4) (kind : Fin 64) {payload : List Byte} (short : payload.length < 65536) :
    s.localFrame p origin (localBytes number high kind payload) = s.takeLocal p origin number kind payload := by
  have third : ([byteOf (high.val * 64 + kind.val)] ++ beBytes 2 payload.length ++ payload) = byteOf (high.val * 64 + kind.val) :: (beBytes 2 payload.length ++ payload) := by simp
  have bytes : localBytes number high kind payload = beBytes 2 number.toNat ++ (byteOf (high.val * 64 + kind.val) :: (beBytes 2 payload.length ++ payload)) := by
    simp [localBytes]
  have numberField : field (localBytes number high kind payload) 0 2 = number.toNat := by rw [bytes, field_word 2 _ _ (by decide)]
  have kindField : field (localBytes number high kind payload) 2 1 = high.val * 64 + kind.val := by
    rw [bytes, field_behind 2 _ _ 2 1 le_rfl, field_cons_zero_one, byteOf, BitVec.toNat_ofNat, Nat.mod_eq_of_lt (by omega)]
  have lengthField : field (localBytes number high kind payload) 3 2 = payload.length := by
    rw [bytes, field_behind 2 _ _ 3 2 (by omega), field_cons, field_beBytes _ (by omega)]
  have long : (localBytes number high kind payload).length = 5 + payload.length := by
    simp only [bytes, List.length_append, List.length_cons, length_beBytes]
    omega
  have behind : (localBytes number high kind payload).drop 5 = payload := by
    rw [localBytes, List.drop_left' (by simp)]
  rw [State.localFrame, if_neg (by simp [running]), if_neg (by simp [long, lengthField]), numberField, kindField, behind]
  congr 1
  · simp
  · refine Fin.ext ?_
    simp only [Fin.ofNat_eq_cast, Fin.val_natCast]
    omega

/-- A payload of a length that R84 allows, for the OPEN OUTBOUND feed of its number and port, is taken by the feed. -/
theorem State.takeLocal_of_sends {k : FeedSlot} {payload : List Byte} (unique : s.NumbersUnique) (sends : (s.feeds.get k).sends) (port : (s.feeds.get k).out.port = p)
    (filled : 1 ≤ payload.length) (short : payload.length ≤ 1024) (kind : Fin 64) :
    s.takeLocal p origin (s.feeds.get k).number kind payload = s.accept k origin kind payload := by
  obtain ⟨opened, outbound⟩ := sends
  have found : s.findFeed .outbound (s.feeds.get k).number = some k := by
    rw [← outbound]
    exact State.findFeed_of_unique unique opened
  have size : ¬ ((decide (payload.length = 0) || decide (Config.maxPayload < payload.length)) = true) := by
    simp only [Bool.or_eq_true, decide_eq_true_eq]
    change ¬ (payload.length = 0 ∨ 1024 < payload.length)
    omega
  rw [State.takeLocal, if_neg size, found]
  exact if_pos port

end Local

/-! ### A message accepted (R85 to R87) -/

section Accept
variable (s : State) (k : FeedSlot)

/-- A message past the rate guard: numbered and counted (R85, R86). -/
def State.numbered : State :=
  s.onOut k fun o => { o with rateCount := bump o.rateCount, nextSeq := o.nextSeq + 1, counters := { o.counters with accepted := bump o.counters.accepted } }

/-- A message past the rate guard with its lead settled and counted besides (R86, R91 to R93). -/
def State.ledBy (lead : Option PathSlot) (reason : Reason) (counts : OutCounters → OutCounters) : State :=
  { s with
    feeds := s.feeds.set k { s.feeds.get k with out := { (s.feeds.get k).out with
      lead := lead
      rateCount := bump (s.feeds.get k).out.rateCount
      nextSeq := (s.feeds.get k).out.nextSeq + 1
      counters := counts { (s.feeds.get k).out.counters with accepted := bump (s.feeds.get k).out.counters.accepted } } }
    nu := if lead = (s.feeds.get k).out.lead then s.nu else s.nu.take ⟨k, (s.feeds.get k).number, (s.feeds.get k).out.lead, lead, reason, s.tb.time⟩ }

theorem State.numbered_get : (s.numbered k).feeds.get k = { s.feeds.get k with out := { (s.feeds.get k).out with
    rateCount := bump (s.feeds.get k).out.rateCount
    nextSeq := (s.feeds.get k).out.nextSeq + 1
    counters := { (s.feeds.get k).out.counters with accepted := bump (s.feeds.get k).out.counters.accepted } } } := Table.get_modify_self ..

theorem State.numbered_setLead (lead : Option PathSlot) (reason : Reason) : (s.numbered k).setLead k lead reason = s.ledBy k lead reason id := by
  obtain ⟨same, stays⟩ | ⟨changes, moved⟩ := (s.numbered k).setLead_cases k lead reason
  · rw [stays]
    rw [State.numbered_get] at same
    cases same
    rw [State.ledBy, if_pos rfl]
    rfl
  · rw [moved]
    rw [State.numbered_get] at changes ⊢
    rw [State.ledBy, if_neg (Ne.symm changes)]
    change ({ s with feeds := ((s.numbered k).feeds.set k _), nu := _ } : State) = _
    rw [State.numbered_get]
    change ({ s with feeds := ((s.feeds.set k _).set k _), nu := _ } : State) = _
    rw [Table.set_set]
    rfl

/-- A feed written and then counted (rule of the feed table). -/
theorem State.countOut_set (f : Feed) (nu : NoticeUnit) (counts : OutCounters → OutCounters) :
    ({ s with feeds := s.feeds.set k f, nu := nu } : State).countOut k counts =
      { s with feeds := s.feeds.set k { f with out := { f.out with counters := counts f.out.counters } }, nu := nu } := by
  change ({ s with feeds := (s.feeds.set k f).set k { (s.feeds.set k f).get k with out := _ }, nu := nu } : State) = _
  rw [Table.set_set, Table.get_set_self]

theorem State.ledBy_countOut (lead : Option PathSlot) (reason : Reason) (counts : OutCounters → OutCounters) :
    (s.ledBy k lead reason id).countOut k counts = s.ledBy k lead reason counts := s.countOut_set k _ _ counts

/-! ### What an accepted message sends (R88 to R94) -/

variable {s k} {m : Message}

/-- The choice of lead for a message takes no notice of its numbering. -/
theorem State.numbered_chooseLead (c : Urgency) (b : PathSlot) :
    (s.numbered k).chooseLead ((s.numbered k).feeds.get k).out c b = s.chooseLead (s.feeds.get k).out c b := by
  rw [State.numbered_get]
  rfl

theorem State.numbered_secondPath (c : Urgency) (lead : PathSlot) :
    (s.numbered k).secondPath ((s.numbered k).feeds.get k).out c lead = s.secondPath (s.feeds.get k).out c lead := by
  rw [State.numbered_get]
  rfl

theorem State.numbered_twoCopies : ((s.numbered k).feeds.get k).out.twoCopies = (s.feeds.get k).out.twoCopies := by rw [State.numbered_get]

/-- Selection on a numbered message, in the terms of the state before it (R89 to R94). -/
theorem State.sendSelected_numbered (b : PathSlot) : (s.numbered k).sendSelected k m b =
    let o := (s.feeds.get k).out
    let lead := (s.chooseLead o m.urgency b).1
    let second := if o.twoCopies then s.secondPath o m.urgency lead else none
    let led (counts : OutCounters → OutCounters) : State := s.ledBy k (some lead) (s.chooseLead o m.urgency b).2 counts
    let sent := (if o.twoCopies && second.isNone then led fun x => { x with singleSends := bump x.singleSends } else led id).handOver k lead (s.copyOn m lead false)
    second.elim sent fun i => sent.handOver k i (s.copyOn m i true) := by
  unfold State.sendSelected
  dsimp only
  rw [State.numbered_chooseLead, State.numbered_secondPath, State.numbered_twoCopies, State.numbered_setLead, State.ledBy_countOut]
  cases (if (s.feeds.get k).out.twoCopies then s.secondPath (s.feeds.get k).out m.urgency (s.chooseLead (s.feeds.get k).out m.urgency b).1 else none) <;> rfl

theorem State.sendSelected_once {b : PathSlot} (once : (s.feeds.get k).out.twoCopies = false) : (s.numbered k).sendSelected k m b =
    (s.ledBy k (some (s.chooseLead (s.feeds.get k).out m.urgency b).1) (s.chooseLead (s.feeds.get k).out m.urgency b).2 id).handOver k
      (s.chooseLead (s.feeds.get k).out m.urgency b).1 (s.copyOn m (s.chooseLead (s.feeds.get k).out m.urgency b).1 false) := by
  rw [State.sendSelected_numbered]
  dsimp only
  rw [once]
  rfl

theorem State.sendSelected_single {b : PathSlot} (twice : (s.feeds.get k).out.twoCopies = true)
    (none : s.secondPath (s.feeds.get k).out m.urgency (s.chooseLead (s.feeds.get k).out m.urgency b).1 = none) : (s.numbered k).sendSelected k m b =
    (s.ledBy k (some (s.chooseLead (s.feeds.get k).out m.urgency b).1) (s.chooseLead (s.feeds.get k).out m.urgency b).2
      fun x => { x with singleSends := bump x.singleSends }).handOver k
      (s.chooseLead (s.feeds.get k).out m.urgency b).1 (s.copyOn m (s.chooseLead (s.feeds.get k).out m.urgency b).1 false) := by
  rw [State.sendSelected_numbered]
  dsimp only
  rw [twice, if_pos rfl, none]
  rfl

theorem State.sendSelected_double {b i : PathSlot} (twice : (s.feeds.get k).out.twoCopies = true)
    (second : s.secondPath (s.feeds.get k).out m.urgency (s.chooseLead (s.feeds.get k).out m.urgency b).1 = some i) : (s.numbered k).sendSelected k m b =
    ((s.ledBy k (some (s.chooseLead (s.feeds.get k).out m.urgency b).1) (s.chooseLead (s.feeds.get k).out m.urgency b).2 id).handOver k
      (s.chooseLead (s.feeds.get k).out m.urgency b).1 (s.copyOn m (s.chooseLead (s.feeds.get k).out m.urgency b).1 false)).handOver k i (s.copyOn m i true) := by
  rw [State.sendSelected_numbered]
  dsimp only
  rw [twice, if_pos rfl, second]
  rfl

/-- Distressed selection on a numbered message, in the terms of the state before it (R93). -/
theorem State.sendDistressed_numbered : (s.numbered k).sendDistressed k m =
    (s.distressedPath (s.feeds.get k).out.pathSet).elim (s.ledBy k none .distress fun x => { x with noPath := bump x.noPath })
      fun i => (s.ledBy k none .distress fun x => { x with distressed := bump x.distressed }).handOver k i (s.copyOn m i false) := by
  unfold State.sendDistressed
  dsimp only
  rw [State.numbered_setLead, State.ledBy_countOut, State.ledBy_countOut, State.numbered_get]
  change (match s.distressedPath (s.feeds.get k).out.pathSet with | none => _ | some i => _) = _
  cases s.distressedPath (s.feeds.get k).out.pathSet <;> rfl

/-- A message past the rate guard is sent by selection, or by distressed selection (R85 to R88, R93). -/
theorem State.accept_numbered (opened : (s.feeds.get k).out.guardOpen = true) (origin : Stamp) (kind : Fin 64) (payload : List Byte) :
    let o := (s.feeds.get k).out
    let m : Message := ⟨(s.feeds.get k).number, o.nextSeq, origin, kind, payload, s.classOf o kind⟩
    s.accept k origin kind payload = (lowestBy (s.cost m.urgency) (s.eligiblePaths o.pathSet)).elim ((s.numbered k).sendDistressed k m) ((s.numbered k).sendSelected k m) := by
  dsimp only
  refine (if_pos opened).trans ?_
  change (s.numbered k).send k _ = _
  unfold State.send
  rw [State.numbered_get]
  change (match lowestBy (s.cost _) (s.eligiblePaths (s.feeds.get k).out.pathSet) with | some b => _ | none => _) = _
  dsimp only
  cases lowestBy (s.cost (s.classOf (s.feeds.get k).out kind)) (s.eligiblePaths (s.feeds.get k).out.pathSet) <;> rfl

/-- The class of a message (R87). -/
theorem State.classOf_urgent_iff (s : State) (o : OutFields) (kind : Fin 64) :
    s.classOf o kind = .urgent ↔ (s.classMap.mem kind.val = true ∨ o.defaultUrgency = .urgent) ∧ o.ceiling = .urgent := by
  have test : ((s.classMap.mem kind.val || decide (o.defaultUrgency = .urgent)) && decide (o.ceiling = .urgent)) = true
      ↔ (s.classMap.mem kind.val = true ∨ o.defaultUrgency = .urgent) ∧ o.ceiling = .urgent := by simp
  rw [← test, State.classOf]
  split
  · next yes => exact ⟨fun _ => yes, fun _ => rfl⟩
  · next no => exact ⟨fun e => absurd e (by decide), fun yes => absurd yes no⟩

/-- The second path is the eligible one of lowest cost on another line than the lead's (R92). -/
theorem State.secondPath_eq_some {o : OutFields} {c : Urgency} {lead i : PathSlot} (eligible : s.eligible o.pathSet i = true)
    (other : (s.paths.get i).line ≠ (s.paths.get lead).line)
    (least : ∀ j, s.eligible o.pathSet j = true → (s.paths.get j).line ≠ (s.paths.get lead).line → s.cost c i < s.cost c j ∨ (s.cost c i = s.cost c j ∧ i ≤ j)) :
    s.secondPath o c lead = some i := by
  refine (lowestBy_eq_some ((finRange_filter_sorted _).filter _)).2 ⟨?_, fun j hj => ?_⟩
  · exact List.mem_filter.2 ⟨mem_eligiblePaths.2 eligible, by simpa using other⟩
  · obtain ⟨mem, elsewhere⟩ := List.mem_filter.1 hj
    exact least j (mem_eligiblePaths.1 mem) (by simpa using elsewhere)

theorem State.secondPath_eq_none {o : OutFields} {c : Urgency} {lead : PathSlot}
    (same : ∀ i, s.eligible o.pathSet i = true → (s.paths.get i).line = (s.paths.get lead).line) : s.secondPath o c lead = none := by
  have empty : ((s.eligiblePaths o.pathSet).filter fun i => (s.paths.get i).line ≠ (s.paths.get lead).line) = [] :=
    List.filter_eq_nil_iff.2 fun i hi => by simp [same i (mem_eligiblePaths.1 hi)]
  rw [State.secondPath, empty]
  rfl

/-- A candidate of distressed selection by its membership, lifecycle and line (R93). -/
theorem State.candidate_iff {set : FlagSet 32} {i : PathSlot} : s.candidate set i = true ↔ set.mem i.val = true ∧ (s.paths.get i).life = .inService
    ∧ (s.lines.get (s.paths.get i).line).grade ≠ 0 ∧ (s.lines.get (s.paths.get i).line).txEnable = true := by
  simp only [State.candidate, Bool.and_eq_true, decide_eq_true_eq, LinePort.usable_iff, and_assoc]

theorem State.distressedPath_eq_none {set : FlagSet 32} (without : ∀ i, s.candidate set i ≠ true) : s.distressedPath set = none := by
  have empty : (List.finRange 32).filter (s.candidate set) = [] := List.filter_eq_nil_iff.2 fun i _ => without i
  rw [State.distressedPath, empty]
  rfl

/-- Distressed selection takes the candidate of lowest nominal delay (R93). -/
theorem State.distressedPath_eq_some {set : FlagSet 32} {i : PathSlot} (candidate : s.candidate set i = true)
    (least : ∀ j, s.candidate set j = true → (s.paths.get i).tuning.nominal < (s.paths.get j).tuning.nominal
      ∨ ((s.paths.get i).tuning.nominal = (s.paths.get j).tuning.nominal ∧ i ≤ j)) : s.distressedPath set = some i :=
  (lowestBy_eq_some (finRange_filter_sorted _)).2 ⟨List.mem_filter.2 ⟨List.mem_finRange i, candidate⟩, fun j hj => least j (List.mem_filter.1 hj).2⟩

end Accept

/-- Settles O53: the frame reaches its feed, which guards, numbers and classes it, and sends it by selection or by distressed selection. -/
theorem messagesAreSent : Obligations.MessagesAreSent := by
  intro r p number high kind payload k s origin running unique sends number_eq port filled short f o frame urgent opened
  subst number_eq
  have accepted : exec (.localFrame p .lastByte frame) r = .next (s.accept k origin kind payload) := by
    change Host.Outcome.next (r.localArrives p .lastByte frame) = _
    rw [localArrives_lastByte, State.localFrame_formed running _ high kind (by omega), State.takeLocal_of_sends unique sends port filled short kind]
  have guarded : o.guardOpen = true ↔ opened := by simp [OutFields.guardOpen, opened]
  refine ⟨fun closed => ?_, fun passed c class_iff => ?_⟩
  · rw [accepted]
    exact congrArg _ (if_neg fun e => closed (guarded.1 e))
  · intro copy taken
    have classed : s.classOf o kind = c := by
      have same : s.classOf o kind = .urgent ↔ c = .urgent := (s.classOf_urgent_iff o kind).trans class_iff.symm
      revert same
      cases s.classOf o kind <;> cases c <;> simp
    have sent : s.accept k origin kind payload = (lowestBy (s.cost c) (s.eligiblePaths o.pathSet)).elim
        ((s.numbered k).sendDistressed k ⟨f.number, o.nextSeq, origin, kind, payload, c⟩) ((s.numbered k).sendSelected k ⟨f.number, o.nextSeq, origin, kind, payload, c⟩) := by
      subst classed
      exact State.accept_numbered (guarded.2 passed) origin kind payload
    rw [accepted, sent]
    refine ⟨fun b lowest => ?_, fun none => ?_⟩
    · rw [lowest]
      exact ⟨fun once => congrArg Host.Outcome.next (State.sendSelected_once once),
        fun twice => ⟨fun same => congrArg Host.Outcome.next (State.sendSelected_single twice (State.secondPath_eq_none same)),
          fun m eligible other least => congrArg Host.Outcome.next (State.sendSelected_double twice (State.secondPath_eq_some eligible other least))⟩⟩
    · rw [eligiblePaths_eq_nil none]
      refine ⟨fun without => ?_, fun i candidate least => ?_⟩ <;> refine congrArg Host.Outcome.next (State.sendDistressed_numbered.trans ?_)
      · rw [State.distressedPath_eq_none fun i h => without i (State.candidate_iff.1 h)]
        rfl
      · rw [State.distressedPath_eq_some (State.candidate_iff.2 candidate) fun j h => least j (State.candidate_iff.1 h)]
        rfl

end Sys2Proof.Machine
end

section
/-! Frames dropped before any unit takes them (R84, R111, R133, R148, R152). -/

namespace Sys2Proof.Machine

/-! ### What makes a header bad (R148) -/

/-- The header length that a kind byte gives; 0 where it names no kind. -/
def headerSize (kind : Byte) : Nat := [0, 32, 16, 16, 8].getD kind.toNat 0

/-- What a kind byte says of its frame (R144, R148). -/
theorem frameKind_cases (b : Byte) : (frameKind b = none ∧ headerSize b = 0)
    ∨ ∃ k, frameKind b = some k ∧ headerSize b = k.headerLength ∧ headerSize b ≠ 0 ∧ (b = 1 ↔ k = .feed) ∧ (b = 4 ↔ k = .modemStatus) := by
  by_cases feed : b = 0x01#8
  · exact .inr ⟨.feed, by subst feed; decide⟩
  by_cases sound : b = 0x02#8
  · exact .inr ⟨.sound, by subst sound; decide⟩
  by_cases echo : b = 0x03#8
  · exact .inr ⟨.echo, by subst echo; decide⟩
  by_cases status : b = 0x04#8
  · exact .inr ⟨.modemStatus, by subst status; decide⟩
  refine .inl ⟨by simp [frameKind, feed, sound, echo, status], ?_⟩
  by_cases zero : b = 0x00#8
  · subst zero; decide
  · have beyond : 5 ≤ b.toNat := by bv_omega
    exact List.getD_eq_default _ _ (by simpa using beyond)

/-- A field of two bytes is below 2^16. -/
theorem field_two_lt (bytes : List Byte) (i : Nat) : field bytes i 2 < 2 ^ 16 := by
  have short : ((bytes.drop i).take 2).length ≤ 2 := List.length_take_le 2 _
  have spelled := beValue_beBytes ((bytes.drop i).take 2).length (beValue ((bytes.drop i).take 2))
  rw [beBytes_beValue] at spelled
  rw [field, spelled]
  calc beValue ((bytes.drop i).take 2) % 256 ^ ((bytes.drop i).take 2).length
      < 256 ^ ((bytes.drop i).take 2).length := Nat.mod_lt _ (Nat.pow_pos (by decide))
    _ ≤ 256 ^ 2 := Nat.pow_le_pow_right (by decide) short

/-- A frame either has a bad header, for one of three reasons, or is read as its kind (R148). -/
theorem goodHeader_cases (bytes : List Byte) :
    let kind : Byte := bytes.headD 0
    let size : Nat := headerSize kind
    let short : Prop := size = 0 ∨ bytes.length < size
    let wrong : Prop := headerCheck (bytes.take (size - 2)) ≠ BitVec.ofNat 16 (field bytes (size - 2) 2)
    let unformed : Prop := if kind = 1 then field bytes 18 2 = 0 ∨ 1024 < field bytes 18 2 else bytes.length ≠ size
    (goodHeader bytes = none ∧ (short ∨ wrong ∨ unformed)) ∨ (¬ short ∧ ¬ wrong ∧ ¬ unformed ∧ ∃ k, goodHeader bytes = some k ∧ (kind = 4 ↔ k = .modemStatus)) := by
  intro kind size short wrong unformed
  have read : goodHeader bytes = match frameKind kind with
      | none => none
      | some k => if k.headerLength ≤ bytes.length && headerCheckGood k bytes && headerFormed k bytes then some k else none := by
    cases bytes <;> rfl
  obtain ⟨none, zero⟩ | ⟨k, some, length, filled, feed, status⟩ := frameKind_cases kind
  · refine .inl ⟨by rw [read, none], .inl (.inl zero)⟩
  · have long : k.headerLength ≤ bytes.length ↔ ¬ short := by
      simp only [short, size]
      omega
    have check : headerCheckGood k bytes = true ↔ ¬ wrong := by
      have word : ∀ (v : BitVec 16) (n : Nat), n < 2 ^ 16 → (v.toNat = n ↔ v = BitVec.ofNat 16 n) := fun v n h => by
        rw [← BitVec.toNat_inj, BitVec.toNat_ofNat, Nat.mod_eq_of_lt h]
      simp only [wrong, size, headerCheckGood, decide_eq_true_eq, not_not, length]
      exact word _ _ (field_two_lt _ _)
    have form : headerFormed k bytes = true ↔ ¬ unformed := by
      simp only [unformed, size, length]
      cases k with
      | feed =>
        rw [if_pos (feed.2 rfl), headerFormed]
        simp only [Bool.and_eq_true, decide_eq_true_eq]
        change 1 ≤ field bytes 18 2 ∧ field bytes 18 2 ≤ 1024 ↔ _
        omega
      | sound => rw [if_neg fun e => by cases feed.1 e]; simp [headerFormed, FrameKind.headerLength]
      | echo => rw [if_neg fun e => by cases feed.1 e]; simp [headerFormed, FrameKind.headerLength]
      | modemStatus => rw [if_neg fun e => by cases feed.1 e]; simp [headerFormed, FrameKind.headerLength]
    rw [some] at read
    have good : (k.headerLength ≤ bytes.length && headerCheckGood k bytes && headerFormed k bytes) = true ↔ ¬ short ∧ ¬ wrong ∧ ¬ unformed := by
      rw [Bool.and_eq_true, Bool.and_eq_true, decide_eq_true_eq, long, check, form, and_assoc]
    by_cases bad : short ∨ wrong ∨ unformed
    · refine .inl ⟨read.trans (if_neg fun e => ?_), bad⟩
      obtain ⟨right, sound, formed⟩ := good.1 e
      exact bad.elim right fun bad => bad.elim sound formed
    · obtain ⟨right, sound, formed⟩ : ¬ short ∧ ¬ wrong ∧ ¬ unformed := by simpa only [not_or] using bad
      exact .inr ⟨right, sound, formed, k, read.trans (if_pos (good.2 ⟨right, sound, formed⟩)), status⟩

/-! ### Line frames dropped (R111, R148) -/

section Line
variable {s : State} {l : Line} {stamp : Stamp} {bytes : List Byte}

theorem State.lineFrame_rxOff (running : s.resetting = false) (off : (s.lines.get l).rxEnable = false) :
    s.lineFrame l stamp bytes = s.countLine l fun c => { c with rxOff := bump c.rxOff } := by
  rw [State.lineFrame, if_neg (by simp [running]), if_neg (by simp [off])]

theorem State.lineFrame_badHeader (running : s.resetting = false) (receives : (s.lines.get l).rxEnable = true) (bad : goodHeader bytes = none) :
    s.lineFrame l stamp bytes = s.countLine l fun c => { c with badHeader := bump c.badHeader } := by
  rw [State.lineFrame, if_neg (by simp [running]), if_pos receives, bad]

/-- A frame other than MODEM STATUS on a LOST line (R65). -/
theorem State.receiveKind_lost {k : FrameKind} (other : k ≠ .modemStatus) (lost : (s.lines.get l).grade = 0) :
    s.receiveKind l stamp bytes k = s.countLine l fun c => { c with noCarrier := bump c.noCarrier } := by
  have carrier : ¬ (s.lines.get l).carrier = true := by simp [LinePort.carrier, lost]
  cases k with
  | modemStatus => exact absurd rfl other
  | feed => exact if_neg carrier
  | sound => exact if_neg carrier
  | echo => exact if_neg carrier

end Line

/-! ### Local frames dropped (R84) -/

section Local
variable {s : State} {p : Port} {origin : Stamp} {number : BitVec 16} {kind : Fin 64} {payload : List Byte}

theorem State.takeLocal_oversize (size : payload.length = 0 ∨ 1024 < payload.length) :
    s.takeLocal p origin number kind payload = s.countPort p fun x => { x with oversize := bump x.oversize } := by
  have bad : (decide (payload.length = 0) || decide (Config.maxPayload < payload.length)) = true := by
    rw [Bool.or_eq_true, decide_eq_true_eq, decide_eq_true_eq]
    exact size
  exact if_pos bad

theorem State.takeLocal_sized (filled : 1 ≤ payload.length) (short : payload.length ≤ 1024) :
    s.takeLocal p origin number kind payload = (s.findFeed .outbound number).elim (s.countPort p fun x => { x with unknownFeed := bump x.unknownFeed })
      fun k => if (s.feeds.get k).out.port = p then s.accept k origin kind payload else s.countPort p fun x => { x with wrongPort := bump x.wrongPort } := by
  have size : ¬ ((decide (payload.length = 0) || decide (Config.maxPayload < payload.length)) = true) := by
    rw [Bool.or_eq_true, decide_eq_true_eq, decide_eq_true_eq]
    change ¬ (payload.length = 0 ∨ 1024 < payload.length)
    omega
  rw [State.takeLocal, if_neg size]
  cases s.findFeed .outbound number <;> rfl

end Local

theorem localBytes_of_kind (number : BitVec 16) (kind : Byte) (payload : List Byte) : ∃ (high : Fin 4) (low : Fin 64),
    beBytes 2 number.toNat ++ [kind] ++ beBytes 2 payload.length ++ payload = localBytes number high low payload := by
  refine ⟨⟨kind.toNat / 64, by omega⟩, ⟨kind.toNat % 64, Nat.mod_lt _ (by decide)⟩, ?_⟩
  have byte : byteOf (kind.toNat / 64 * 64 + kind.toNat % 64) = kind := by
    rw [Nat.div_add_mod']
    exact BitVec.eq_of_toNat_eq (by simp [byteOf])
  rw [localBytes, byte]

/-- Settles O48: the first byte takes the stamp; the bytes then decide where a frame is dropped. -/
theorem badFramesAreDroppedAndCounted : Obligations.BadFramesAreDroppedAndCounted := by
  refine ⟨fun s l p bytes => ⟨fun held => ?_, fun started => ?_⟩, ?_, ?_⟩
  · have line : exec (.feedFrame l .firstByte bytes) s = .next s := congrArg Host.Outcome.next (if_pos held)
    exact ⟨line, line, line, line, line, congrArg Host.Outcome.next (if_pos held)⟩
  · intro t
    have line : exec (.feedFrame l .firstByte bytes) s = .next t := congrArg Host.Outcome.next (if_neg started)
    exact ⟨line, line, line, line, line, congrArg Host.Outcome.next (if_neg started)⟩
  · intro r l bytes s running p counted kind size short wrong unformed outcome
    have dropped : outcome (exec (.feedFrame l .lastByte bytes) r) := by
      have taken : exec (.feedFrame l .lastByte bytes) r = .next (s.lineFrame l (stampOnLine r l) bytes) := congrArg Host.Outcome.next (lineArrives_lastByte r l bytes)
      rw [taken]
      have header := goodHeader_cases bytes
      refine ⟨fun off => congrArg Host.Outcome.next (State.lineFrame_rxOff running off), fun receives bad => ?_, fun receives right sound formed other lost => ?_⟩
      · obtain ⟨none, -⟩ | ⟨right, sound, formed, -⟩ := header
        · exact congrArg Host.Outcome.next (State.lineFrame_badHeader running receives none)
        · exact absurd bad fun bad => bad.elim right fun bad => bad.elim sound formed
      · obtain ⟨-, bad⟩ | ⟨-, -, -, k, good, status⟩ := header
        · exact absurd bad fun bad => bad.elim right fun bad => bad.elim sound formed
        · refine congrArg Host.Outcome.next ((lineFrame_of_good running receives good).trans (State.receiveKind_lost (fun e => other (status.2 e)) lost))
    exact ⟨dropped, dropped, dropped, dropped, dropped⟩
  · intro r p s running counted c
    refine ⟨fun bytes bad => ?_, ?_⟩
    · have taken : exec (.localFrame p .lastByte bytes) r = .next (s.localFrame p (stampOnPort r p) bytes) := congrArg Host.Outcome.next (localArrives_lastByte r p bytes)
      exact taken.trans (congrArg Host.Outcome.next (State.localFrame_badLength running bad))
    · intro number kind payload fits bytes
      obtain ⟨high, low, spelled⟩ := localBytes_of_kind number kind payload
      have taken : exec (.localFrame p .lastByte bytes) r = .next (s.takeLocal p (stampOnPort r p) number low payload) := by
        have arrived : exec (.localFrame p .lastByte bytes) r = .next (s.localFrame p (stampOnPort r p) bytes) := congrArg Host.Outcome.next (localArrives_lastByte r p bytes)
        simp only [bytes] at arrived ⊢
        rw [arrived, spelled, State.localFrame_formed running number high low fits]
      rw [taken]
      refine ⟨fun size => congrArg Host.Outcome.next (State.takeLocal_oversize size), fun filled small => ⟨fun none => ?_, fun k unique sends named elsewhere => ?_⟩⟩
      · have lost : s.findFeed .outbound number = Option.none := State.findFeed_none.2 fun k ⟨opened, outbound, held⟩ => none k ⟨opened, outbound⟩ held
        rw [State.takeLocal_sized filled small, lost]
        rfl
      · obtain ⟨opened, outbound⟩ := sends
        have found : s.findFeed .outbound number = some k := by
          rw [← outbound, ← named]
          exact State.findFeed_of_unique unique opened
        rw [State.takeLocal_sized filled small, found]
        exact congrArg Host.Outcome.next (if_neg elsewhere)

end Sys2Proof.Machine
end

section
/-! SOUND and ECHO frames: their fields, the context an ECHO matches, and what SU makes of them (R32 to R37, R145). -/

namespace Sys2Proof.Machine

/-! ### Fields of the control frames (R145) -/

section Control
variable {tag : BitVec 12} {id : BitVec 16}

/-- The fields that a SOUND and an ECHO share. -/
theorem control_fields (kind : Byte) {low : Nat} (fits : low < 16) (tag : BitVec 12) (id : BitVec 16) (rest : List Byte) :
    let bytes := kind :: (beBytes 2 (tag.toNat * 16 + low) ++ (beBytes 2 id.toNat ++ rest))
    controlTag bytes = tag ∧ controlId bytes = id ∧ field bytes 1 2 = tag.toNat * 16 + low := by
  intro bytes
  have top : field bytes 1 2 = tag.toNat * 16 + low := (field_cons ..).trans (field_beBytes _ (by omega))
  refine ⟨?_, ?_, top⟩
  · have high : (tag.toNat * 16 + low) / 16 = tag.toNat := by omega
    rw [controlTag, top, high, BitVec.ofNat_toNat, BitVec.setWidth_eq]
  · have second : field bytes 3 2 = id.toNat := (field_cons ..).trans ((field_behind 2 _ _ 2 2 le_rfl).trans (field_word 2 id rest (by decide)))
    rw [controlId, second, BitVec.ofNat_toNat, BitVec.setWidth_eq]

theorem echoBytes_eq (voided : Bool) (spare : Fin 8) (residence : BitVec 32) (fill : BitVec 40) : ∃ check, echoBytes tag voided spare id residence fill =
    0x03 :: (beBytes 2 (tag.toNat * 16 + ((if voided then 8 else 0) + spare.val)) ++ (beBytes 2 id.toNat ++ (beBytes 4 residence.toNat ++ (beBytes 5 fill.toNat ++ check)))) := by
  obtain ⟨check, spelled⟩ : ∃ check, echoBytes tag voided spare id residence fill = ([0x03] ++ beBytes 2 (tag.toNat * 16 + (if voided then 8 else 0) + spare.val)
    ++ beBytes 2 id.toNat ++ beBytes 4 residence.toNat ++ beBytes 5 fill.toNat) ++ check := ⟨_, rfl⟩
  exact ⟨check, spelled.trans (by simp [Nat.add_assoc])⟩

theorem soundBytes_eq (spare : Fin 16) (fill : BitVec 72) : ∃ check, soundBytes tag spare id fill =
    0x02 :: (beBytes 2 (tag.toNat * 16 + spare.val) ++ (beBytes 2 id.toNat ++ (beBytes 9 fill.toNat ++ check))) := by
  obtain ⟨check, spelled⟩ : ∃ check, soundBytes tag spare id fill = ([0x02] ++ beBytes 2 (tag.toNat * 16 + spare.val) ++ beBytes 2 id.toNat
    ++ beBytes 9 fill.toNat) ++ check := ⟨_, rfl⟩
  exact ⟨check, spelled.trans (by simp)⟩

theorem goodHeader_echoBytes (voided : Bool) (spare : Fin 8) (residence : BitVec 32) (fill : BitVec 40) :
    goodHeader (echoBytes tag voided spare id residence fill) = some .echo := by
  have good := goodHeader_withHeaderCheck (b := 0x03#8) (k := .echo)
    (h := beBytes 2 (tag.toNat * 16 + (if voided then 8 else 0) + spare.val) ++ beBytes 2 id.toNat ++ beBytes 4 residence.toNat ++ beBytes 5 fill.toNat) []
    rfl (by simp [FrameKind.headerLength]) (by simp [headerFormed, length_withHeaderCheck])
  rwa [List.append_nil] at good

theorem goodHeader_soundBytes (spare : Fin 16) (fill : BitVec 72) : goodHeader (soundBytes tag spare id fill) = some .sound := by
  have good := goodHeader_withHeaderCheck (b := 0x02#8) (k := .sound)
    (h := beBytes 2 (tag.toNat * 16 + spare.val) ++ beBytes 2 id.toNat ++ beBytes 9 fill.toNat) []
    rfl (by simp [FrameKind.headerLength]) (by simp [headerFormed, length_withHeaderCheck])
  rwa [List.append_nil] at good

/-- The fields of an ECHO (R145). -/
theorem echo_fields (voided : Bool) (spare : Fin 8) (residence : BitVec 32) (fill : BitVec 40) :
    let bytes := echoBytes tag voided spare id residence fill
    controlTag bytes = tag ∧ controlId bytes = id ∧ echoVoided bytes = voided ∧ echoResidence bytes = residence.toNat := by
  intro bytes
  obtain ⟨check, spelled⟩ := echoBytes_eq (tag := tag) (id := id) voided spare residence fill
  have fits : (if voided then 8 else 0) + spare.val < 16 := by cases voided <;> simp <;> omega
  obtain ⟨tagField, idField, top⟩ := control_fields 0x03 fits tag id (beBytes 4 residence.toNat ++ (beBytes 5 fill.toNat ++ check))
  simp only [bytes, spelled]
  refine ⟨tagField, idField, ?_, ?_⟩
  · rw [echoVoided, top]
    cases voided
    · exact decide_eq_false (by simp; omega)
    · exact decide_eq_true (by simp; omega)
  · rw [echoResidence, field_cons _ _ 4 4, field_behind 2 _ _ 4 4 (by omega), field_behind 2 _ _ 2 4 le_rfl, field_word 4 residence _ (by decide)]

end Control

/-! ### The context of an ECHO (R32) -/

section Matching

/-- The fold of the earliest gives the best so far or one of the list. -/
theorem foldl_earlier_mem (l : List (Option (ContextId × Stamp))) {best : Option (ContextId × Stamp)} {x : ContextId × Stamp} (h : l.foldl earlier best = some x) :
    best = some x ∨ some x ∈ l := by
  induction l generalizing best with
  | nil => exact .inl h
  | cons a l ih =>
    obtain now | later := ih h
    · cases best with
      | none => exact .inr (by rw [show earlier none a = a from rfl] at now; rw [now]; exact List.mem_cons_self)
      | some b =>
        cases a with
        | none => exact .inl now
        | some y =>
          by_cases before : y.2 < b.2
          · exact .inr (by rw [← now, show earlier (some b) (some y) = some y from if_pos before]; exact List.mem_cons_self)
          · exact .inl (by rw [← now, show earlier (some b) (some y) = some b from if_neg before])
    · exact .inr (List.mem_cons_of_mem _ later)

/-- A best that none of the list is earlier than stays. -/
theorem foldl_earlier_keep (l : List (Option (ContextId × Stamp))) {x : ContextId × Stamp} (first : ∀ y, some y ∈ l → ¬ y.2 < x.2) : l.foldl earlier (some x) = some x := by
  induction l with
  | nil => rfl
  | cons a l ih =>
    have step : earlier (some x) a = some x := by
      cases a with
      | none => rfl
      | some y => exact if_neg (first y List.mem_cons_self)
    rw [List.foldl_cons, step]
    exact ih fun y hy => first y (List.mem_cons_of_mem _ hy)

variable {u : SoundingUnit} {line : Line} {tag : BitVec 12} {id : BitVec 16}

theorem SoundingUnit.candidate_iff {c m : ContextId} {t : Stamp} : u.candidate line tag id c = some (m, t) ↔
    m = c ∧ ∃ x, u.contexts.get c = some x ∧ x.line = line ∧ x.tag = tag ∧ x.id = id ∧ x.t1 = some t := by
  unfold SoundingUnit.candidate
  cases u.contexts.get c with
  | none => simp
  | some x =>
    have matches_iff : x.matchesEcho line tag id = true ↔ x.line = line ∧ x.tag = tag ∧ x.id = id ∧ x.t1.isSome = true := by simp [Context.matchesEcho, and_assoc]
    by_cases same : x.matchesEcho line tag id = true
    · obtain ⟨onLine, tagged, named, -⟩ := matches_iff.1 same
      simp only [same, if_true, Option.map_eq_some_iff, Prod.mk.injEq, Option.some.injEq]
      exact ⟨fun ⟨t', departed, at_c, at_t⟩ => ⟨at_c.symm, x, rfl, onLine, tagged, named, departed.trans (congrArg some at_t)⟩,
        fun ⟨at_c, y, is, _, _, _, departed⟩ => ⟨t, by rw [is, departed], at_c.symm, rfl⟩⟩
    · simp only [same, Bool.false_eq_true, if_false, reduceCtorEq, false_iff]
      rintro ⟨-, y, is, onLine, tagged, named, departed⟩
      cases is
      exact same (matches_iff.2 ⟨onLine, tagged, named, by rw [departed]; rfl⟩)

/-- No context of the line, tag and id has departed (R33). -/
theorem SoundingUnit.matching_eq_none (without : ∀ c x t1, u.contexts.get c = some x → ¬ (x.line = line ∧ x.tag = tag ∧ x.id = id ∧ x.t1 = some t1)) :
    u.matching line tag id = none := by
  refine Option.eq_none_iff_forall_ne_some.2 fun ⟨m, t⟩ found => ?_
  obtain start | mem := foldl_earlier_mem _ found
  · cases start
  · obtain ⟨c, -, candidate⟩ := List.mem_map.1 mem
    obtain ⟨-, x, held, same⟩ := SoundingUnit.candidate_iff.1 candidate
    exact without c x t held same

/-- The matching context of earliest T1, of equal ones the lowest, is the one (R32, log 20). -/
theorem SoundingUnit.matching_eq_some {c : ContextId} {x : Context} {t1 : Stamp} (held : u.contexts.get c = some x)
    (same : x.line = line ∧ x.tag = tag ∧ x.id = id ∧ x.t1 = some t1)
    (first : ∀ m y t, u.contexts.get m = some y → (y.line = line ∧ y.tag = tag ∧ y.id = id ∧ y.t1 = some t) → t1 < t ∨ (t1 = t ∧ c ≤ m)) :
    u.matching line tag id = some (c, t1) := by
  obtain ⟨pre, post, split⟩ := List.append_of_mem (List.mem_finRange c)
  have sorted := List.pairwise_lt_finRange 16
  rw [split] at sorted
  have before : ∀ m ∈ pre, m < c := fun m hm => (List.pairwise_append.1 sorted).2.2 m hm c List.mem_cons_self
  have self : u.candidate line tag id c = some (c, t1) := SoundingUnit.candidate_iff.2 ⟨rfl, x, held, same⟩
  have least : ∀ m t, u.candidate line tag id m = some (m, t) → t1 < t ∨ (t1 = t ∧ c ≤ m) := fun m t h => by
    obtain ⟨-, y, at_m, alike⟩ := SoundingUnit.candidate_iff.1 h
    exact first m y t at_m alike
  rw [SoundingUnit.matching, split, List.map_append, List.foldl_append, List.map_cons, List.foldl_cons, self]
  have taken : earlier ((pre.map (u.candidate line tag id)).foldl earlier none) (some (c, t1)) = some (c, t1) := by
    cases best : (pre.map (u.candidate line tag id)).foldl earlier none with
    | none => rfl
    | some y =>
      obtain start | mem := foldl_earlier_mem _ best
      · cases start
      · obtain ⟨m, inPre, candidate⟩ := List.mem_map.1 mem
        obtain ⟨k, t⟩ := y
        obtain ⟨rfl, -⟩ := SoundingUnit.candidate_iff.1 candidate
        obtain earlier | ⟨-, low⟩ := least _ t candidate
        · exact if_pos earlier
        · exact absurd (before _ inPre) (not_lt.2 low)
  rw [taken]
  refine foldl_earlier_keep _ fun ⟨k, t⟩ hy => ?_
  obtain ⟨m, -, candidate⟩ := List.mem_map.1 hy
  obtain ⟨rfl, -⟩ := SoundingUnit.candidate_iff.1 candidate
  obtain earlier | ⟨equal, -⟩ := least _ t candidate
  · exact fun later => absurd (BitVec.lt_trans earlier later) (BitVec.lt_irrefl _)
  · rw [equal]; exact BitVec.lt_irrefl _

end Matching

/-! ### What SU makes of an ECHO and of a SOUND (R33, R34, R37) -/

section Taken
variable {s : State} {l : Line} {tag : BitVec 12} {id : BitVec 16}

theorem State.takeEcho_stray (none : s.su.matching l tag id = none) (t4 : Stamp) (voided : Bool) (residence : Nat) :
    s.takeEcho l t4 tag id voided residence = s.countLine l fun k => { k with stray := bump k.stray } := by
  unfold State.takeEcho
  rw [none]

theorem State.takeEcho_matched {c : ContextId} {x : Context} {t1 : Stamp} (found : s.su.matching l tag id = some (c, t1)) (held : s.su.contexts.get c = some x)
    (t4 : Stamp) (voided : Bool) (residence : Nat) : s.takeEcho l t4 tag id voided residence =
      (if voided then s.onSu (·.free c) else (s.onSu (·.free c)).echoResult l x.path (roundTrip t4 t1 residence)).serve := by
  unfold State.takeEcho
  rw [found]
  dsimp only
  rw [held]

theorem State.echoResult_bad {i : PathSlot} {rt : Int} (bad : rt < 0 ∨ 40000000 < rt) :
    s.echoResult l i rt = s.countLine l fun k => { k with badEcho := bump k.badEcho } :=
  if_pos (by rw [Bool.or_eq_true, decide_eq_true_eq, decide_eq_true_eq]; exact bad)

/-- A round trip in its range gives its sample to PT and WM (R34, R35). -/
theorem State.echoResult_good {i : PathSlot} {rt : Int} (low : 0 ≤ rt) (high : rt ≤ 40000000) :
    let p : Path := { s.paths.get i with counters := { (s.paths.get i).counters with echoesGood := bump (s.paths.get i).counters.echoesGood } }
    let judged := p.takeResult s.settings (.valid (max 0 (min ((rt + 1) / 2 + p.tuning.asymmetry) 20000000)).toNat)
    s.echoResult l i rt = { s with
      paths := s.paths.set i { judged.path with
        weather := if p.measured then { p.weather with goodResults := bump p.weather.goodResults } else p.weather }
      nu := match judged.raised with
        | none => s.nu
        | some k => s.nu.raisePath k i } := by
  intro p judged
  have good : ¬ (decide (rt < 0) || decide (Config.maxRoundTrip < rt)) = true := by
    rw [Bool.or_eq_true, decide_eq_true_eq, decide_eq_true_eq]
    change ¬ (rt < 0 ∨ 40000000 < rt)
    omega
  have sample : oneWay rt p.tuning.asymmetry = (max 0 (min ((rt + 1) / 2 + p.tuning.asymmetry) 20000000)).toNat := by
    change (max 0 (min 20000000 ((rt + 1) / 2 + p.tuning.asymmetry))).toNat = _
    rw [min_comm]
  refine (if_neg good).trans ?_
  dsimp only
  rw [State.handResult_eq]
  have counted : (s.countPath i fun k => { k with echoesGood := bump k.echoesGood }).paths.get i = p := Table.get_modify_self ..
  rw [counted, show (s.paths.get i).tuning = p.tuning from rfl, sample]
  change ({ s with paths := (s.paths.set i p).set i _, nu := _ } : State) = _
  rw [Table.set_set]
  rfl

end Taken

/-- Settles O47: the ECHO is matched, judged and handed on; the SOUND joins the echo slot or is refused. -/
theorem echoesAndSoundsAreTaken : Obligations.EchoesAndSoundsAreTaken := by
  refine ⟨?_, ?_⟩
  · intro r l tag voided spare id residence fill s t4 running receives carrier frame matching
    obtain ⟨tagField, idField, voidedField, residenceField⟩ := echo_fields (tag := tag) (id := id) voided spare residence fill
    have taken : exec (.echoFrame l .lastByte frame) r = .next (s.takeEcho l t4 tag id voided residence.toNat) := by
      change Host.Outcome.next (r.lineArrives l .lastByte frame) = _
      rw [lineArrives_lastByte, lineFrame_of_good running receives (goodHeader_echoBytes voided spare residence fill), State.receiveKind,
        if_pos (LinePort.carrier_of_grade carrier), tagField, idField, voidedField, residenceField]
    rw [taken]
    refine ⟨fun none => congrArg Host.Outcome.next (State.takeEcho_stray (SoundingUnit.matching_eq_none none) ..), ?_⟩
    intro c x t1 held same first freed rt
    rw [State.takeEcho_matched (SoundingUnit.matching_eq_some held same first) held]
    refine ⟨fun isVoid => ?_, fun valid bad => ?_, fun valid low high => ?_⟩
    · rw [if_pos isVoid]
      rfl
    · rw [if_neg (by simp [valid])]
      exact congrArg (fun t => Host.Outcome.next (State.serve t)) (State.echoResult_bad bad)
    · rw [if_neg (by simp [valid])]
      exact congrArg (fun t => Host.Outcome.next (State.serve t)) (State.echoResult_good low high)
  · intro r l tag spare id fill s t2 running receives carrier
    have fields : controlTag (soundBytes tag spare id fill) = tag ∧ controlId (soundBytes tag spare id fill) = id := by
      obtain ⟨check, spelled⟩ := soundBytes_eq (tag := tag) (id := id) spare fill
      obtain ⟨tagField, idField, -⟩ := control_fields 0x02 spare.isLt tag id (beBytes 9 fill.toNat ++ check)
      rw [spelled]
      exact ⟨tagField, idField⟩
    obtain ⟨tagField, idField⟩ := fields
    have taken : exec (.soundFrame l .lastByte (soundBytes tag spare id fill)) r = .next (s.takeSound l t2 tag id) := by
      change Host.Outcome.next (r.lineArrives l .lastByte _) = _
      rw [lineArrives_lastByte, lineFrame_of_good running receives (goodHeader_soundBytes spare fill), State.receiveKind,
        if_pos (LinePort.carrier_of_grade carrier), tagField, idField]
    rw [taken]
    exact ⟨fun room => congrArg Host.Outcome.next (if_pos room), fun full => congrArg Host.Outcome.next (if_neg (Nat.not_lt.2 full))⟩

end Sys2Proof.Machine
end

section
/-! FEED frames: their fields, the payload check, the judgement of the window and the delivery (R117 to R127, R144, R149). -/

namespace Sys2Proof.Machine

/-! ### Fields of a FEED frame (R144) -/

section Layout
variable {tag : BitVec 12} {top : Fin 16} {high : Fin 4} {kind : Fin 64} {number : BitVec 16} {sequence : Seq} {origin : Stamp} {length : BitVec 16} {check : BitVec 32}
  {fill : BitVec 48} {payload : List Byte}

/-- A FEED header without its header check. -/
def feedFields (tag : BitVec 12) (top : Fin 16) (high : Fin 4) (kind : Fin 64) (number : BitVec 16) (sequence : Seq) (origin : Stamp) (length : BitVec 16)
    (check : BitVec 32) (fill : BitVec 48) : List Byte :=
  [0x01] ++ beBytes 2 (tag.toNat * 16 + top.val) ++ [byteOf (high.val * 64 + kind.val)] ++ beBytes 2 number.toNat ++ beBytes 4 sequence.toNat
    ++ beBytes 8 origin.toNat ++ beBytes 2 length.toNat ++ beBytes 4 check.toNat ++ beBytes 6 fill.toNat

theorem feedBytes_eq : feedBytes tag top high kind number sequence origin length check fill payload =
    withHeaderCheck (feedFields tag top high kind number sequence origin length check fill) ++ payload := rfl

theorem length_feedFields : (feedFields tag top high kind number sequence origin length check fill).length = 30 := by simp [feedFields]

section Frame
variable {bytes : List Byte} (frame : bytes = feedBytes tag top high kind number sequence origin length check fill payload)
include frame

theorem length_of_feedBytes : bytes.length = 32 + payload.length := by
  rw [frame, feedBytes_eq, List.length_append, length_withHeaderCheck, length_feedFields]

theorem drop_of_feedBytes : bytes.drop 32 = payload := by
  rw [frame, feedBytes_eq, List.drop_left' (by rw [length_withHeaderCheck, length_feedFields])]

/-- A FEED frame's bytes, field behind field. -/
theorem feedBytes_spelled : ∃ rest, bytes =
    0x01 :: (beBytes 2 (tag.toNat * 16 + top.val) ++ (byteOf (high.val * 64 + kind.val) :: (beBytes 2 number.toNat ++ (beBytes 4 sequence.toNat
      ++ (beBytes 8 origin.toNat ++ (beBytes 2 length.toNat ++ (beBytes 4 check.toNat ++ rest))))))) := by
  obtain ⟨rest, spelled⟩ : ∃ rest, bytes = feedFields tag top high kind number sequence origin length check fill ++ (rest ++ payload) :=
    ⟨_, frame.trans (List.append_assoc ..)⟩
  exact ⟨beBytes 6 fill.toNat ++ (rest ++ payload), spelled.trans (by simp [feedFields])⟩

/-- The header fields of a FEED frame (R144). -/
theorem feedHeader_of_feedBytes : feedHeader bytes = ⟨tag, top.val / 8 = 1, kind, number, sequence, origin, length.toNat, check⟩ := by
  obtain ⟨rest, spelled⟩ := feedBytes_spelled frame
  have word {w : Nat} (v : BitVec w) {n : Nat} (h : n = v.toNat) : BitVec.ofNat w n = v := by rw [h, BitVec.ofNat_toNat, BitVec.setWidth_eq]
  have first : field bytes 1 2 = tag.toNat * 16 + top.val := by
    rw [spelled, field_cons _ _ 0 2, field_beBytes _ (by omega)]
  have third : field bytes 3 1 = high.val * 64 + kind.val := by
    rw [spelled, field_cons _ _ 2 1, field_behind 2 _ _ 2 1 le_rfl, field_cons_zero_one, byteOf, BitVec.toNat_ofNat, Nat.mod_eq_of_lt (by omega)]
  have behind (i n : Nat) : field bytes (4 + i) n = field (beBytes 2 number.toNat ++ (beBytes 4 sequence.toNat
      ++ (beBytes 8 origin.toNat ++ (beBytes 2 length.toNat ++ (beBytes 4 check.toNat ++ rest))))) i n := by
    rw [spelled, show 4 + i = (3 + i) + 1 by omega, field_cons, field_behind 2 _ _ _ n (by omega), show 3 + i - 2 = i + 1 by omega, field_cons]
  have numberField := (behind 0 2).trans (field_word 2 number _ (by decide))
  have sequenceField := (behind 2 4).trans ((field_behind 2 _ _ 2 4 le_rfl).trans (field_word 4 sequence _ (by decide)))
  have originField := (behind 6 8).trans ((field_behind 2 _ _ 6 8 (by omega)).trans ((field_behind 4 _ _ 4 8 le_rfl).trans (field_word 8 origin _ (by decide))))
  have lengthField := (behind 14 2).trans ((field_behind 2 _ _ 14 2 (by omega)).trans ((field_behind 4 _ _ 12 2 (by omega)).trans
    ((field_behind 8 _ _ 8 2 le_rfl).trans (field_word 2 length _ (by decide)))))
  have checkField := (behind 16 4).trans ((field_behind 2 _ _ 16 4 (by omega)).trans ((field_behind 4 _ _ 14 4 (by omega)).trans
    ((field_behind 8 _ _ 10 4 (by omega)).trans ((field_behind 2 _ _ 2 4 le_rfl).trans (field_word 4 check _ (by decide))))))
  rw [feedHeader, FeedHeader.mk.injEq]
  refine ⟨word _ (by rw [first]; omega), ?_, ?_, word _ numberField, word _ sequenceField, word _ originField, lengthField, word _ checkField⟩
  · rw [first]
    exact decide_eq_decide.2 (by omega)
  · rw [third]
    refine Fin.ext ?_
    simp only [Fin.ofNat_eq_cast, Fin.val_natCast]
    omega

theorem goodHeader_of_feedBytes (filled : 1 ≤ length.toNat) (short : length.toNat ≤ 1024) : goodHeader bytes = some .feed := by
  have lengthField : field bytes 18 2 = length.toNat := congrArg FeedHeader.length (feedHeader_of_feedBytes frame)
  have formed : headerFormed .feed bytes = true := by
    rw [headerFormed, lengthField, Bool.and_eq_true, decide_eq_true_eq, decide_eq_true_eq]
    exact ⟨filled, short⟩
  obtain ⟨h, spelled, long⟩ : ∃ h, feedFields tag top high kind number sequence origin length check fill = 0x01 :: h ∧ h.length = 29 := ⟨_, rfl, by simp⟩
  rw [frame, feedBytes_eq, spelled] at formed ⊢
  exact goodHeader_withHeaderCheck payload rfl (by rw [long]; rfl) formed

/-- The payload check of a FEED frame (R149). -/
theorem payloadGood_of_feedBytes : payloadGood bytes = true ↔ payload.length = length.toNat ∧ payloadCheck payload = check := by
  rw [payloadGood, length_of_feedBytes frame, drop_of_feedBytes frame, feedHeader_of_feedBytes frame, Bool.and_eq_true, decide_eq_true_eq, decide_eq_true_eq,
    Nat.add_left_cancel_iff]

variable {s : State} {l : Line} {arrival : Stamp}

theorem State.receiveFeed_bad (bad : payload.length ≠ length.toNat ∨ payloadCheck payload ≠ check) :
    s.receiveFeed l arrival bytes = (s.countLine l fun k => { k with badPayload := bump k.badPayload }).countFrame l tag false := by
  have failed : ¬ payloadGood bytes = true := fun good => by
    obtain ⟨long, checked⟩ := (payloadGood_of_feedBytes frame).1 good
    exact bad.elim (· long) (· checked)
  refine (if_neg failed).trans ?_
  rw [feedHeader_of_feedBytes frame]

theorem State.receiveFeed_good (long : payload.length = length.toNat) (checked : payloadCheck payload = check) :
    s.receiveFeed l arrival bytes =
      (s.countFrame l tag true).takeFeed l arrival ⟨tag, top.val / 8 = 1, kind, number, sequence, origin, length.toNat, check⟩ payload := by
  refine (if_pos ((payloadGood_of_feedBytes frame).2 ⟨long, checked⟩)).trans ?_
  rw [feedHeader_of_feedBytes frame, drop_of_feedBytes frame]

/-- A FEED frame on a line with carrier reaches the payload check (R148, R149). -/
theorem exec_feedFrame {r : State} (running : (quietLine r l).resetting = false) (receives : ((quietLine r l).lines.get l).rxEnable = true)
    (carrier : ((quietLine r l).lines.get l).grade ≠ 0) (filled : 1 ≤ length.toNat) (short : length.toNat ≤ 1024) :
    exec (.feedFrame l .lastByte bytes) r = .next ((quietLine r l).receiveFeed l (stampOnLine r l) bytes) := by
  change Host.Outcome.next (r.lineArrives l .lastByte bytes) = _
  rw [lineArrives_lastByte, lineFrame_of_good running receives (goodHeader_of_feedBytes frame filled short), State.receiveKind, if_pos (LinePort.carrier_of_grade carrier)]

end Frame
end Layout

/-! ### The path of a FEED frame (R69, R149) -/

section Counted
variable {s : State} {l : Line} {tag : BitVec 12} {path : Option PathSlot}

/-- The path that a line and a route tag name, when at most one can (R1). -/
theorem State.findPath_of_iff (named : ∀ i, path = some i ↔ (s.paths.get i).life ≠ .vacant ∧ (s.paths.get i).line = l ∧ (s.paths.get i).tag = tag) :
    s.findPath l tag = path := by
  cases found : s.findPath l tag with
  | some i => exact ((named i).2 (Path.holds_iff.1 (State.findPath_some found).1)).symm
  | none =>
    refine (Option.eq_none_iff_forall_ne_some.2 fun i is => ?_).symm
    exact absurd (Path.holds_iff.2 ((named i).1 is)) (by simp [State.findPath_none.1 found i])

/-- A FEED frame counted by a path in WM's care (R69). -/
def Path.framed (good : Bool) (p : Path) : Path := if p.measured then { p with weather := if good then p.weather.countGood else p.weather.countErrored } else p

theorem Path.framed_identity (good : Bool) (p : Path) : (p.framed good).life = p.life ∧ (p.framed good).line = p.line ∧ (p.framed good).tag = p.tag := by
  unfold Path.framed
  split <;> exact ⟨rfl, rfl, rfl⟩

/-- The paths with the named one changed, if one is named. -/
def State.pathsWith (s : State) (path : Option PathSlot) (f : Path → Path) : Table Path 32 := match path with
  | none => s.paths
  | some i => s.paths.set i (f (s.paths.get i))

theorem State.countFrame_eq (found : s.findPath l tag = path) (good : Bool) : s.countFrame l tag good = { s with paths := s.pathsWith path (Path.framed good) } := by
  unfold State.countFrame
  rw [found]
  cases path <;> rfl

/-- A frame counted does not change which path its line and tag name. -/
theorem State.findPath_framed (named : ∀ i, path = some i ↔ (s.paths.get i).life ≠ .vacant ∧ (s.paths.get i).line = l ∧ (s.paths.get i).tag = tag) (good : Bool) :
    ({ s with paths := s.pathsWith path (Path.framed good) } : State).findPath l tag = path := by
  refine State.findPath_of_iff fun i => (named i).trans ?_
  have same : ((s.pathsWith path (Path.framed good)).get i).life = (s.paths.get i).life ∧ ((s.pathsWith path (Path.framed good)).get i).line = (s.paths.get i).line
      ∧ ((s.pathsWith path (Path.framed good)).get i).tag = (s.paths.get i).tag := by
    cases path with
    | none => exact ⟨rfl, rfl, rfl⟩
    | some k =>
      simp only [State.pathsWith, Table.get_set]
      split
      · next e => subst e; exact Path.framed_identity good _
      · exact ⟨rfl, rfl, rfl⟩
  dsimp only
  rw [same.1, same.2.1, same.2.2]

end Counted

/-! ### Judgement and delivery (R118 to R127) -/

section Arbitrate
variable {s : State} {k : FeedSlot} {d : Delivery} {seq : Seq}

/-- What NU holds after a judgement of feed `k` (R119, R122). -/
def NoticeUnit.judged (n : NoticeUnit) (k : FeedSlot) (j : Judgement) : NoticeUnit := match j.event with
  | none => n
  | some e => n.raiseFeed e k

/-- An arrival judged: the window moves and the judgement is counted and reported (R118 to R122). -/
theorem State.arbitrate_eq (s : State) (k : FeedSlot) (d : Delivery) (seq : Seq) :
    let b := (s.feeds.get k).inb
    let judged := b.window.judge (2 ^ b.sizeCode) b.start seq
    let t : State := { s with
      feeds := s.feeds.set k { s.feeds.get k with inb := { b with window := judged.1, counters := b.counters.judged judged.2 } }
      nu := s.nu.judged k judged.2 }
    s.arbitrate k d seq = if judged.2.passes then t.deliver k d else t := by
  intro b judged t
  have step : s.arbitrate k d seq = if judged.2.passes then (State.deliver (match judged.2.event with
      | none => s.onInb k fun x => { x with window := judged.1, counters := x.counters.judged judged.2 }
      | some e => (s.onInb k fun x => { x with window := judged.1, counters := x.counters.judged judged.2 }).raiseFeed e k) k d)
    else (match judged.2.event with
      | none => s.onInb k fun x => { x with window := judged.1, counters := x.counters.judged judged.2 }
      | some e => (s.onInb k fun x => { x with window := judged.1, counters := x.counters.judged judged.2 }).raiseFeed e k) := rfl
  rw [step]
  simp only [t, NoticeUnit.judged]
  cases judged.2.event <;> rfl

/-- A delivery: the ports of the mask are offered it, the feed counts the refusals, and the path wins (R125, R127). -/
theorem State.deliver_eq (s : State) (k : FeedSlot) (d : Delivery) :
    let f := s.feeds.get k
    s.deliver k d = { s with
      ports := s.ports.mapIdx fun p (q : LocalPort) => if f.inb.mask.mem p.val then q.offer d else q
      feeds := s.feeds.set k { f with inb := { f.inb with counters := { f.inb.counters with deliveryDrop := satAdd f.inb.counters.deliveryDrop (s.refusals f.inb.mask) } } }
      paths := s.pathsWith d.path fun p => { p with wins := bump p.wins } } := by
  unfold State.deliver
  dsimp only
  cases d.path <;> rfl

theorem State.refusals_eq (s : State) (mask : FlagSet 4) :
    s.refusals mask = (List.finRange 4).countP fun q => mask.mem q.val && decide (64 ≤ (s.ports.get q).fifo.length) := by
  rw [List.countP_eq_length_filter]
  rfl

theorem LocalPort.offer_eq (q : LocalPort) (d : Delivery) : q.offer d = if 64 ≤ q.fifo.length then
    ⟨q.fifo, { q.counters with deliveryDrop := bump q.counters.deliveryDrop }⟩ else ⟨q.fifo ++ [d], q.counters⟩ := by
  obtain ⟨full, same⟩ | ⟨room, same⟩ := q.offer_cases d
  · rw [if_pos full, same]
  · rw [if_neg (Nat.not_le.2 room), same]

/-- A named path changed twice. -/
theorem State.pathsWith_pathsWith (s : State) (path : Option PathSlot) (f g : Path → Path) :
    ({ s with paths := s.pathsWith path f } : State).pathsWith path g = s.pathsWith path fun p => g (f p) := by
  cases path with
  | none => rfl
  | some i =>
    simp only [State.pathsWith]
    rw [Table.set_set, Table.get_set_self]

/-- An arrival that passes, judged and delivered (R118 to R127). -/
theorem State.arbitrate_passed (s : State) (k : FeedSlot) (d : Delivery) (seq : Seq) :
    let b := (s.feeds.get k).inb
    let judged := b.window.judge (2 ^ b.sizeCode) b.start seq
    let counts := b.counters.judged judged.2
    judged.2.passes = true → s.arbitrate k d seq = { s with
      ports := s.ports.mapIdx fun p (q : LocalPort) => if b.mask.mem p.val then q.offer d else q
      feeds := s.feeds.set k { s.feeds.get k with inb := { b with
        window := judged.1
        counters := { counts with deliveryDrop := satAdd counts.deliveryDrop (s.refusals b.mask) } } }
      nu := s.nu.judged k judged.2
      paths := s.pathsWith d.path fun p => { p with wins := bump p.wins } } := by
  intro b judged counts passes
  refine (State.arbitrate_eq ..).trans ((if_pos passes).trans ?_)
  rw [State.deliver_eq]
  dsimp only
  rw [Table.get_set_self, Table.set_set]
  cases d.path <;> rfl

theorem State.takeFeed_unknown {h : FeedHeader} {payload : List Byte} {l : Line} {arrival : Stamp} (lost : s.findFeed .inbound h.number = none) :
    s.takeFeed l arrival h payload = s.countLine l fun k => { k with unknownFeed := bump k.unknownFeed } := by
  unfold State.takeFeed
  rw [lost]

theorem State.takeFeed_known {h : FeedHeader} {payload : List Byte} {l : Line} {arrival : Stamp} {path : Option PathSlot} (known : s.findFeed .inbound h.number = some k)
    (named : s.findPath l h.tag = path) :
    s.takeFeed l arrival h payload = s.arbitrate k ⟨h.number, h.kind, payload, h.origin, arrival, path, l, h.second⟩ h.sequence := by
  unfold State.takeFeed
  rw [known, ← named]

/-- No judgement counts a refusal (R125). -/
theorem InCounters.judged_deliveryDrop (x : InCounters) (j : Judgement) : (x.judged j).deliveryDrop = x.deliveryDrop := by cases j <;> rfl

end Arbitrate

/-- Settles O49: the payload check, the path's count, the judgement, and the delivery of what passes. -/
theorem feedFramesAreDelivered : Obligations.FeedFramesAreDelivered := by
  intro r l tag top high kind number sequence origin length check fill payload path s arrival running receives carrier filled short named frame counted pathsAfter line
  have found := State.findPath_of_iff named
  have spelled : frame = feedBytes tag top high kind number sequence origin length check fill payload := rfl
  clear_value frame
  rw [exec_feedFrame spelled running receives carrier filled short]
  have same (good : Bool) : Path.framed good = counted good := funext fun p => by
    unfold Path.framed
    cases good <;> rfl
  have after (f : Path → Path) : s.pathsWith path f = pathsAfter f := by cases path <;> rfl
  refine ⟨fun bad => ?_, fun long checked => ?_⟩
  · refine congrArg Host.Outcome.next ((State.receiveFeed_bad spelled bad).trans ?_)
    refine (State.countFrame_eq (s := s.countLine l _) found false).trans ?_
    rw [same, ← after]
    rfl
  · let u : State := { s with paths := s.pathsWith path (Path.framed true) }
    rw [State.receiveFeed_good spelled long checked, State.countFrame_eq found true, ← same]
    refine ⟨fun none => ?_, ?_⟩
    · have lost : u.findFeed .inbound number = Option.none := State.findFeed_none.2 none
      rw [State.takeFeed_unknown lost, ← after]
      rfl
    · intro k unique opened inbound numbered b judged x counts raised nu
      have feedFound : u.findFeed .inbound number = some k := by
        rw [← inbound, ← numbered]
        exact State.findFeed_of_unique (s := u) unique opened
      have arbitrated : u.takeFeed l arrival ⟨tag, top.val / 8 = 1, kind, number, sequence, origin, length.toNat, check⟩ payload =
          u.arbitrate k ⟨number, kind, payload, origin, arrival, path, l, top.val / 8 = 1⟩ sequence :=
        State.takeFeed_known feedFound (State.findPath_framed named true)
      have counted_eq : x.judged judged.2 = counts := by
        simp only [counts]
        generalize judged.2 = j
        cases judged.2 <;> rfl
      have nu_eq : s.nu.judged k judged.2 = nu := by
        simp only [nu, NoticeUnit.judged]
        cases judged.2 with
        | advanced n => cases n <;> rfl
        | _ => rfl
      rw [arbitrated]
      refine ⟨fun dropped => ?_, fun fresh young => ?_⟩
      · have fails : ¬ judged.2.passes = true := by
          obtain is | is := dropped <;> rw [is] <;> decide
        refine congrArg Host.Outcome.next ((State.arbitrate_eq ..).trans ((if_neg fails).trans ?_))
        rw [← after, ← counted_eq, ← nu_eq]
      · have passes : judged.2.passes = true := by
          revert fresh young
          cases judged.2 <;> simp [Judgement.passes]
        have won : u.pathsWith path (fun p => { p with wins := bump p.wins }) = pathsAfter fun p => { Path.framed true p with wins := bump p.wins } := by
          have wins (p : Path) : (p.framed true).wins = p.wins := by
            unfold Path.framed
            split <;> rfl
          simp only [u]
          rw [State.pathsWith_pathsWith, after]
          simp only [wins]
        refine ⟨_, congrArg Host.Outcome.next (State.arbitrate_passed u k _ sequence passes), ?_, fun q => ?_⟩
        · rw [← won, ← counted_eq, ← nu_eq, ← State.refusals_eq, ← x.judged_deliveryDrop judged.2]
          rfl
        · dsimp only
          rw [Table.get_mapIdx, LocalPort.offer_eq]

end Sys2Proof.Machine
end

section
/-! The service of due paths: what each turn leaves, and what the whole of it comes to (R24 to R29). -/

namespace Sys2Proof.Machine

/-! ### What sending a control frame changes (R30, R38) -/

/-- A line that differs only in its ratio counter, what it sends, its control slot, and ECHOES SENT. -/
def LinePort.Sounded (p q : LinePort) : Prop :=
  q = { p with ratioCount := q.ratioCount, tx := q.tx, echoes := q.echoes, sounds := q.sounds, counters := { p.counters with echoesSent := q.counters.echoesSent } }

theorem LinePort.Sounded.refl (p : LinePort) : p.Sounded p := rfl

theorem LinePort.Sounded.trans {p q r : LinePort} (h : p.Sounded q) (k : q.Sounded r) : p.Sounded r := by
  unfold LinePort.Sounded at *
  rw [k, h]

/-- A context that differs only in its departure. -/
def Context.Departed (x y : Context) : Prop := y = { x with t1 := y.t1, deadline := y.deadline }

theorem Context.Departed.refl (x : Context) : x.Departed x := rfl

theorem Context.Departed.trans {x y z : Context} (h : x.Departed y) (k : y.Departed z) : x.Departed z := by
  unfold Context.Departed at *
  rw [k, h]

/-- A state in which line `l` alone has started a frame, a control frame if a SOUND waits: what stands on it, departures of contexts, and SOUNDINGS SENT on their paths. -/
structure State.Departs (l : Line) (s t : State) : Prop where
  rest : t = { s with paths := t.paths, su := t.su, lines := t.lines }
  su : t.su = { s.su with contexts := t.su.contexts }
  free : ∀ c, s.su.contexts.get c = none → t.su.contexts.get c = none
  taken : ∀ c x, s.su.contexts.get c = some x → ∃ y, t.su.contexts.get c = some y ∧ x.Departed y
  paths : ∀ i, t.paths.get i = { s.paths.get i with counters := { (s.paths.get i).counters with soundingsSent := (t.paths.get i).counters.soundingsSent } }
  unsent : ∀ i, (∀ c x, s.su.contexts.get c = some x → x.path ≠ i) → t.paths.get i = s.paths.get i
  line : (s.lines.get l).sounds ≠ [] → (s.lines.get l).Sounded (t.lines.get l)
  elsewhere : ∀ m, m ≠ l → t.lines.get m = s.lines.get m

theorem State.Departs.refl (l : Line) (s : State) : State.Departs l s s :=
  ⟨rfl, rfl, fun _ h => h, fun _ x h => ⟨x, h, .refl x⟩, fun _ => rfl, fun _ _ => rfl, fun _ => .refl _, fun _ _ => rfl⟩

/-- A line written with what it sends is all that departs. -/
theorem State.Departs.of_line (s : State) {l : Line} {p : LinePort} (h : (s.lines.get l).sounds ≠ [] → (s.lines.get l).Sounded p) :
    State.Departs l s { s with lines := s.lines.set l p } :=
  ⟨rfl, rfl, fun _ h => h, fun _ x h => ⟨x, h, .refl x⟩, fun _ => rfl, fun _ _ => rfl, fun control => by rw [Table.get_set_self]; exact h control,
    fun _ other => Table.get_set_ne _ other _⟩

/-- A SOUND without a context starts on its line alone. -/
theorem State.startNext_stray {s : State} {l : Line} {p : LinePort} {e : SoundEntry} {rest : List SoundEntry} (noEcho : p.echoes = []) (h : p.sounds = e :: rest)
    (free : s.su.contexts.get e.context = none) : ({ s with lines := s.lines.set l p } : State).startNext l =
      { s with lines := s.lines.set l { p with sounds := rest, tx := some (p.sending s.clock (.sound e.tag e.id) 1) } } := by
  have started : ({ s with lines := s.lines.set l p } : State).startNext l = ({ s with lines := s.lines.set l p } : State).startSound l e rest := by
    unfold State.startNext
    rw [Table.get_set_self, noEcho, h]
  rw [started]
  unfold State.startSound
  rw [State.onLine_set]
  dsimp only
  rw [free]

/-- A line settled starts a frame, a control frame if a SOUND waits (R104, R105). -/
theorem State.startNext_departs {s : State} {l : Line} {p : LinePort} (same : (s.lines.get l).Sounded p) (control : (s.lines.get l).sounds = p.sounds) :
    State.Departs l s (({ s with lines := s.lines.set l p } : State).startNext l) := by
  cases echoes : p.echoes with
  | cons e more =>
    rw [State.startNext_echo echoes]
    exact .of_line s fun _ => same.trans rfl
  | nil =>
    cases sounds : p.sounds with
    | nil =>
      have none : (s.lines.get l).sounds = [] := control.trans sounds
      cases chosen : p.choose with
      | none =>
        rw [State.startNext_nothing echoes sounds chosen]
        exact .of_line s fun some => absurd none some
      | some c =>
        rw [State.startNext_traffic echoes sounds chosen]
        exact .of_line s fun some => absurd none some
    | cons d rest =>
    cases held : s.su.contexts.get d.context with
    | none =>
      rw [State.startNext_stray echoes sounds held]
      exact .of_line s fun _ => same.trans rfl
    | some x =>
      rw [State.startNext_sound echoes sounds held]
      refine ⟨rfl, rfl, fun c free => ?_, fun c y at_c => ?_, fun i => ?_, fun i away => ?_, ?_, fun _ other => Table.get_set_ne _ other _⟩
      · dsimp only
        rw [Table.get_set]
        split
        · next e => rw [e, held] at free; cases free
        · exact free
      · dsimp only
        rw [Table.get_set]
        split
        · next e =>
          rw [e, held] at at_c
          cases at_c
          exact ⟨_, rfl, rfl⟩
        · exact ⟨y, at_c, .refl y⟩
      · dsimp only
        rw [Table.get_set]
        split
        · next e => rw [e]
        · rfl
      · dsimp only
        rw [Table.get_set, if_neg fun e => away d.context x held e.symm]
      · dsimp only
        rw [Table.get_set_self]
        exact fun _ => same.trans rfl

/-- A frame boundary starts a frame on its line, a control frame if a SOUND waits, or nothing (R104). -/
theorem State.boundary_departs (s : State) (l : Line) : State.Departs l s (s.boundary l) := by
  have settled : (s.lines.get l).Sounded (s.lines.get l).settled := by
    rw [LinePort.settled_eq]
    rfl
  have kept : (s.lines.get l).sounds = (s.lines.get l).settled.sounds := by rw [LinePort.settled_eq]
  obtain ⟨-, same⟩ | ⟨-, -, -, same⟩ | ⟨-, -, -, same⟩ := s.boundary_cases l <;> rw [same]
  · exact .refl l s
  · exact .of_line s fun _ => settled
  · exact State.startNext_departs settled kept

/-! ### One path's turn (R26, R28) -/

/-- Path `i` has taken context `c` and its SOUND stands in the control slot of its line, before the boundary that follows (R26). -/
def State.sounding (s : State) (i : PathSlot) (c : ContextId) : State :=
  { s with
    su := s.su.issue i c (s.paths.get i) s.micros
    lines := s.lines.set (s.paths.get i).line { s.lines.get (s.paths.get i).line with
      sounds := (s.lines.get (s.paths.get i).line).sounds ++ [⟨c, (s.paths.get i).tag, s.su.nextId⟩] } }

/-- Path `i` waits, its deferral counted (R28). -/
def State.deferred (s : State) (i : PathSlot) : State :=
  { s with
    su := { s.su with waiting := s.su.waiting.insert i.val }
    paths := s.paths.set i { s.paths.get i with counters := { (s.paths.get i).counters with soundingsDeferred := bump (s.paths.get i).counters.soundingsDeferred } } }

theorem State.issue_departs (s : State) (i : PathSlot) (c : ContextId) : State.Departs (s.paths.get i).line (s.sounding i c) (s.issue i c) := by
  have issued : s.issue i c = (s.sounding i c).boundary (s.paths.get i).line := rfl
  rw [issued]
  exact State.boundary_departs ..

/-- The SOUND of the path stands in the control slot. -/
theorem State.sounding_sound (s : State) (i : PathSlot) (c : ContextId) : ((s.sounding i c).lines.get (s.paths.get i).line).sounds ≠ [] := by simp [State.sounding]

/-- What a path's turn leaves, by whether it can issue, whether a context is free, and whether it waits already (R26, R28, R29). -/
theorem State.servePath_turn (s : State) (i : PathSlot) :
    (s.canIssue i = false ∧ s.servePath i = s)
    ∨ (s.canIssue i = true ∧ (∃ c, s.su.freeContext = some c ∧ State.Departs (s.paths.get i).line (s.sounding i c) (s.servePath i)))
    ∨ (s.canIssue i = true ∧ s.su.freeContext = none ∧ s.servePath i = if s.su.waiting.mem i.val then s else s.deferred i) := by
  obtain none | ⟨can, c, free, same⟩ | ⟨can, free, waits, same⟩ | ⟨can, free, waits, same⟩ := s.servePath_cases i
  · exact .inl none
  · exact .inr (.inl ⟨can, c, free, by rw [same]; exact s.issue_departs i c⟩)
  · exact .inr (.inr ⟨can, free, by rw [same, if_pos waits]⟩)
  · exact .inr (.inr ⟨can, free, by rw [same, if_neg (by simp [waits])]; rfl⟩)

theorem SoundingUnit.freeContext_free {u : SoundingUnit} {c : ContextId} (h : u.freeContext = some c) : u.contexts.get c = none :=
  Option.isNone_iff_eq_none.1 (Table.lowest_some h).1

/-! ### What the service keeps (R26 to R30) -/

/-- A state in which only soundings were issued, deferred or started: new contexts stand on usable lines, other lines are as they were. -/
structure State.Sounds (s t : State) : Prop where
  rest : t = { s with paths := t.paths, su := t.su, lines := t.lines }
  lines : ∀ l, (s.lines.get l).Sounded (t.lines.get l)
  paths : ∀ i, t.paths.get i = { s.paths.get i with counters := { (s.paths.get i).counters with
    soundingsSent := (t.paths.get i).counters.soundingsSent, soundingsDeferred := (t.paths.get i).counters.soundingsDeferred } }
  taken : ∀ c x, s.su.contexts.get c = some x → ∃ y, t.su.contexts.get c = some y ∧ x.Departed y
  origin : ∀ c y, t.su.contexts.get c = some y → (∃ x, s.su.contexts.get c = some x ∧ x.Departed y) ∨ (s.lines.get y.line).usable = true
  quiet : ∀ l, (s.lines.get l).usable = false → t.lines.get l = s.lines.get l

theorem State.Sounds.refl (s : State) : s.Sounds s :=
  ⟨rfl, fun _ => .refl _, fun _ => rfl, fun _ x h => ⟨x, h, .refl x⟩, fun _ y h => .inl ⟨y, h, .refl y⟩, fun _ _ => rfl⟩

theorem LinePort.Sounded.usable {p q : LinePort} (h : p.Sounded q) : q.usable = p.usable := by
  rw [h]
  rfl

theorem State.Sounds.trans {s t u : State} (h : s.Sounds t) (k : t.Sounds u) : s.Sounds u := by
  refine ⟨by rw [k.rest, h.rest], fun l => (h.lines l).trans (k.lines l), fun i => by rw [k.paths i, h.paths i], fun c x at_c => ?_, fun c y at_c => ?_, fun l off => ?_⟩
  · obtain ⟨y, at_t, xy⟩ := h.taken c x at_c
    obtain ⟨z, at_u, yz⟩ := k.taken c y at_t
    exact ⟨z, at_u, xy.trans yz⟩
  · obtain ⟨x, at_t, xy⟩ | usable := k.origin c y at_c
    · obtain ⟨w, at_s, wx⟩ | usable := h.origin c x at_t
      · exact .inl ⟨w, at_s, wx.trans xy⟩
      · exact .inr (by rw [xy]; exact usable)
    · exact .inr (by rw [← (h.lines y.line).usable]; exact usable)
  · rw [k.quiet l (by rw [(h.lines l).usable]; exact off), h.quiet l off]

theorem State.sounding_sounds {s : State} {i : PathSlot} {c : ContextId} (can : s.canIssue i = true) (free : s.su.freeContext = some c) : s.Sounds (s.sounding i c) := by
  have usable : (s.lines.get (s.paths.get i).line).usable = true := (Bool.and_eq_true_iff.1 can).2
  refine ⟨rfl, fun l => ?_, fun _ => rfl, fun m x at_m => ⟨x, ?_, .refl x⟩, fun m y at_m => ?_, fun l off => ?_⟩
  · simp only [State.sounding, Table.get_set]
    split
    · next e => rw [e]; rfl
    · exact .refl _
  · simp only [State.sounding, SoundingUnit.issue, Table.get_set]
    rw [if_neg fun e => ?_]
    · exact at_m
    · rw [e, SoundingUnit.freeContext_free free] at at_m
      cases at_m
  · simp only [State.sounding, SoundingUnit.issue, Table.get_set] at at_m
    split at at_m
    · cases at_m
      exact .inr usable
    · exact .inl ⟨y, at_m, .refl y⟩
  · simp only [State.sounding]
    exact Table.get_set_ne _ (fun e => by rw [e, usable] at off; cases off) _

theorem State.Departs.sounds {s t : State} {l : Line} (h : State.Departs l s t) (control : (s.lines.get l).sounds ≠ []) (usable : (s.lines.get l).usable = true) : s.Sounds t := by
  refine ⟨h.rest, fun m => ?_, fun i => by rw [h.paths i], h.taken, fun c y at_c => ?_, fun m off => h.elsewhere m fun e => by rw [e, usable] at off; cases off⟩
  · by_cases e : m = l
    · rw [e]; exact h.line control
    · rw [h.elsewhere m e]; exact .refl _
  · cases at_s : s.su.contexts.get c with
    | none => rw [h.free c at_s] at at_c; cases at_c
    | some x =>
      obtain ⟨z, at_t, xz⟩ := h.taken c x at_s
      cases at_c.symm.trans at_t
      exact .inl ⟨x, rfl, xz⟩

theorem State.deferred_sounds (s : State) (i : PathSlot) : s.Sounds (s.deferred i) := by
  refine ⟨rfl, fun _ => .refl _, fun k => ?_, fun _ x h => ⟨x, h, .refl x⟩, fun _ y h => .inl ⟨y, h, .refl y⟩, fun _ _ => rfl⟩
  simp only [State.deferred, Table.get_set]
  split
  · next e => rw [e]
  · rfl

theorem State.servePath_sounds (s : State) (i : PathSlot) : s.Sounds (s.servePath i) := by
  obtain ⟨-, same⟩ | ⟨can, c, free, departs⟩ | ⟨-, -, same⟩ := s.servePath_turn i
  · rw [same]; exact .refl s
  · have usable : ((s.sounding i c).lines.get (s.paths.get i).line).usable = true := by
      rw [((State.sounding_sounds can free).lines _).usable]
      exact (Bool.and_eq_true_iff.1 can).2
    exact (State.sounding_sounds can free).trans (departs.sounds (s.sounding_sound i c) usable)
  · rw [same]
    split
    · exact .refl s
    · exact s.deferred_sounds i

theorem State.Sounds.foldl (l : List PathSlot) (s : State) : s.Sounds (l.foldl State.servePath s) := by
  induction l generalizing s with
  | nil => exact .refl s
  | cons i l ih => exact (s.servePath_sounds i).trans (ih _)

theorem State.serve_eq (s : State) : s.serve = if s.resetting then s else s.serveOrder.foldl State.servePath s := rfl

theorem State.serve_sounds (s : State) : s.Sounds s.serve := by
  rw [State.serve_eq]
  split
  · exact .refl s
  · exact .foldl _ s

end Sys2Proof.Machine
end

section
/-! A sounding falls due, and a context is lost (R24 to R31). -/

namespace Sys2Proof.Machine

/-! ### What a turn leaves of the other paths (R26, R28) -/

/-- A state in which path `i` stands in the schedule as it did. -/
structure State.Leaves (i : PathSlot) (s t : State) : Prop where
  due : t.su.due.mem i.val = s.su.due.mem i.val
  waiting : t.su.waiting.mem i.val = s.su.waiting.mem i.val
  nextDue : t.su.nextDue.get i = s.su.nextDue.get i
  deferred : (t.paths.get i).counters.soundingsDeferred = (s.paths.get i).counters.soundingsDeferred

theorem State.Leaves.refl (i : PathSlot) (s : State) : State.Leaves i s s := ⟨rfl, rfl, rfl, rfl⟩

theorem State.Leaves.trans {i : PathSlot} {s t u : State} (h : State.Leaves i s t) (k : State.Leaves i t u) : State.Leaves i s u :=
  ⟨k.due.trans h.due, k.waiting.trans h.waiting, k.nextDue.trans h.nextDue, k.deferred.trans h.deferred⟩

theorem State.Departs.leaves {s t : State} {l : Line} (h : State.Departs l s t) (i : PathSlot) : State.Leaves i s t := by
  refine ⟨?_, ?_, ?_, by rw [h.paths i]⟩ <;> rw [h.su]

theorem State.sounding_leaves (s : State) {i k : PathSlot} (other : k ≠ i) (c : ContextId) : State.Leaves k s (s.sounding i c) := by
  refine ⟨?_, ?_, Table.get_set_ne _ other _, rfl⟩ <;> exact (FlagSet.mem_erase_fin ..).trans (by simp [Ne.symm other])

theorem State.deferred_leaves (s : State) {i k : PathSlot} (other : k ≠ i) : State.Leaves k s (s.deferred i) := by
  refine ⟨rfl, (FlagSet.mem_insert_fin ..).trans (by simp [Ne.symm other]), rfl, ?_⟩
  simp only [State.deferred, Table.get_set_ne _ other]

theorem State.servePath_leaves (s : State) {i k : PathSlot} (other : k ≠ i) : State.Leaves k s (s.servePath i) := by
  obtain ⟨-, same⟩ | ⟨-, c, -, departs⟩ | ⟨-, -, same⟩ := s.servePath_turn i
  · rw [same]; exact .refl k s
  · exact (s.sounding_leaves other c).trans (departs.leaves k)
  · rw [same]
    split
    · exact .refl k s
    · exact s.deferred_leaves other

/-- Turns of other paths leave a path in its place. -/
theorem State.Leaves.foldl {i : PathSlot} {l : List PathSlot} (absent : i ∉ l) (s : State) : State.Leaves i s (l.foldl State.servePath s) := by
  induction l generalizing s with
  | nil => exact .refl i s
  | cons k l ih =>
    obtain ⟨other, rest⟩ : i ≠ k ∧ i ∉ l := by simpa using absent
    exact (s.servePath_leaves other).trans (ih rest _)

/-- A path that is not due has no turn. -/
theorem State.servePath_of_not_due {s : State} {i : PathSlot} (h : s.su.due.mem i.val = false) : s.servePath i = s := by
  simp [State.servePath, State.canIssue, h]

theorem State.foldl_of_none_due {l : List PathSlot} {s : State} (h : ∀ k ∈ l, s.su.due.mem k.val = false) : l.foldl State.servePath s = s := by
  induction l with
  | nil => rfl
  | cons k l ih =>
    rw [List.foldl_cons, State.servePath_of_not_due (h k List.mem_cons_self)]
    exact ih fun m hm => h m (List.mem_cons_of_mem _ hm)

/-- The service as the turn of path `i` between the turns of the others. -/
theorem State.serve_split {s : State} (running : s.resetting = false) (i : PathSlot) : ∃ pre post, s.serveOrder = pre ++ i :: post ∧ pre.Nodup ∧ i ∉ pre ∧ i ∉ post
    ∧ s.serve = post.foldl State.servePath ((pre.foldl State.servePath s).servePath i) := by
  obtain ⟨pre, post, split⟩ := List.append_of_mem (s.serveOrder_perm.mem_iff.2 (List.mem_finRange i))
  have once : (pre ++ i :: post).Nodup := by
    rw [← split]
    exact s.serveOrder_perm.nodup_iff.2 (List.nodup_finRange 32)
  obtain ⟨before, tail, apart⟩ := List.nodup_append.1 once
  refine ⟨pre, post, split, before, fun h => apart i h i List.mem_cons_self rfl, (List.nodup_cons.1 tail).1, ?_⟩
  rw [State.serve_eq, if_neg (by simp [running]), split, List.foldl_append, List.foldl_cons]

/-- With one path due, the service is its turn. -/
theorem State.serve_alone {s : State} {i : PathSlot} (running : s.resetting = false) (alone : ∀ k, k ≠ i → s.su.due.mem k.val = false) : s.serve = s.servePath i := by
  obtain ⟨pre, post, -, -, notPre, notPost, split⟩ := State.serve_split running i
  have other {l : List PathSlot} (absent : i ∉ l) {k : PathSlot} (hk : k ∈ l) : k ≠ i := fun e => absent (e ▸ hk)
  rw [split, State.foldl_of_none_due fun k hk => alone k (other notPre hk)]
  refine State.foldl_of_none_due fun k hk => ?_
  rw [(s.servePath_leaves (other notPost hk)).due]
  exact alone k (other notPost hk)

/-! ### One path's issue in full (R26, R30) -/

/-- The timeouts of the codes (R30). -/
theorem timeoutOf_eq (code : Nat) : timeoutOf code = [some 25000000, some 5000000, some 10000000, some 45000000, some 100000000].getD code none := by
  match code with
  | 0 | 1 | 2 | 3 | 4 => rfl
  | _ + 5 => rfl

theorem State.canIssue_iff {s : State} {i : PathSlot} : s.canIssue i = true ↔ s.su.due.mem i.val = true
    ∧ (s.lines.get (s.paths.get i).line).grade ≠ 0 ∧ (s.lines.get (s.paths.get i).line).txEnable = true := by
  rw [State.canIssue, Bool.and_eq_true, LinePort.usable_iff]

theorem State.servePath_blocked {s : State} {i : PathSlot} (h : s.canIssue i = false) : s.servePath i = s := by
  simp [State.servePath, h]

theorem State.servePath_full {s : State} {i : PathSlot} (can : s.canIssue i = true) (full : ∀ c, s.su.contexts.get c ≠ none) :
    s.servePath i = if s.su.waiting.mem i.val then s else s.deferred i := by
  obtain ⟨cannot, -⟩ | ⟨-, c, free, -⟩ | ⟨-, -, same⟩ := s.servePath_turn i
  · cases cannot.symm.trans can
  · exact absurd (SoundingUnit.freeContext_free free) (full c)
  · exact same

/-- The lowest free context. -/
theorem SoundingUnit.freeContext_eq {u : SoundingUnit} {c : ContextId} (free : u.contexts.get c = none) (lowest : ∀ m, m < c → u.contexts.get m ≠ none) :
    u.freeContext = some c :=
  Table.lowest_eq (by rw [free]; rfl) fun m hm => by
    cases h : u.contexts.get m with
    | none => exact absurd h (lowest m hm)
    | some x => rfl

theorem State.servePath_issued {s : State} {i : PathSlot} {c : ContextId} (can : s.canIssue i = true) (free : s.su.freeContext = some c) :
    s.servePath i = (s.sounding i c).boundary (s.paths.get i).line := by
  rw [State.servePath, if_pos can, free]
  rfl

/-- On an IDLE line with an empty control slot the SOUND starts at once (R30, R104). -/
theorem State.sounding_boundary {s : State} {i : PathSlot} {c : ContextId} (running : s.resetting = false) (usable : (s.lines.get (s.paths.get i).line).usable = true)
    (idle : (s.lines.get (s.paths.get i).line).tx = none) (noEcho : (s.lines.get (s.paths.get i).line).echoes = [])
    (noSound : (s.lines.get (s.paths.get i).line).sounds = []) :
    let p := s.paths.get i
    let l := s.lines.get p.line
    (s.sounding i c).boundary p.line = { s with
      su := { s.su.issue i c p s.micros with contexts := s.su.contexts.set c (some ((p.newContext i s.su.nextId).depart s.tb.time)) }
      lines := s.lines.set p.line { l with
        ratioCount := if l.normal = [] then 0 else l.ratioCount
        tx := some ⟨.sound p.tag s.su.nextId, 1, cellTime l.grade, s.clock, soundFrameBytes p.tag s.su.nextId⟩ }
      paths := s.paths.set i { p with counters := { p.counters with soundingsSent := bump p.counters.soundingsSent } } } := by
  intro p l
  have line : (s.sounding i c).lines.get p.line = { l with sounds := [⟨c, p.tag, s.su.nextId⟩] } :=
    (Table.get_set_self ..).trans (by rw [noSound]; rfl)
  have taken : (s.sounding i c).su.contexts.get c = some (p.newContext i s.su.nextId) := Table.get_set_self ..
  rw [State.boundary_of_usable (s := s.sounding i c) running (by rw [line]; exact idle) (by rw [line]; exact usable), line, LinePort.settled_eq]
  refine (State.startNext_sound (s := s.sounding i c) 
    (p := { l with sounds := [⟨c, p.tag, s.su.nextId⟩], ratioCount := if l.normal = [] then 0 else l.ratioCount }) noEcho rfl taken).trans ?_
  change ({ s with lines := (s.lines.set p.line _).set p.line _, su := { s.su.issue i c p s.micros with contexts := (s.su.contexts.set c _).set c _ }, paths := _ } : State) = _
  rw [Table.set_set, Table.set_set]
  have cleared : { l with sounds := [] } = l := by
    rw [← noSound]
  rw [← cleared]
  rfl

/-! ### Paths that fall due (R25) -/

theorem State.fallingDue_iff {s : State} {i k : PathSlot} : (s.fallingDue i).mem k.val = true
    ↔ (s.paths.get k).measured = true ∧ s.su.nextDue.get k = s.su.nextDue.get i ∧ ∃ at_, s.su.nextDue.get i = some at_ ∧ at_ ≤ s.clock / 400 := by
  unfold State.fallingDue
  cases time : s.su.nextDue.get i with
  | none => simp [FlagSet.mem]
  | some t =>
    dsimp only
    split
    · next reached =>
      rw [FlagSet.mem_ofPred, Bool.and_eq_true, decide_eq_true_eq]
      exact ⟨fun ⟨same, measured⟩ => ⟨measured, same, t, rfl, reached⟩, fun ⟨measured, same, _⟩ => ⟨same, measured⟩⟩
    · next early =>
      refine iff_of_false (by simp [FlagSet.mem]) fun ⟨_, _, at_, is, reached⟩ => early ?_
      cases is
      exact reached

theorem State.exec_soundingDue {s : State} (running : s.resetting = false) (i : PathSlot) :
    exec (.soundingDue i) s = .next (State.serve { s with su := { s.su with due := s.su.due ||| s.fallingDue i } }) :=
  congrArg Host.Outcome.next (if_neg (by simp [running]))

/-- A sounding that falls due alone gives its path a turn, and no other (R25). -/
theorem State.soundingDue_alone {s : State} {i : PathSlot} {at_ : Nat} (running : s.resetting = false) (time : s.su.nextDue.get i = some at_) (reached : at_ ≤ s.clock / 400)
    (measured : (s.paths.get i).measured = true) (alone : ∀ k, k ≠ i → s.su.due.mem k.val = false ∧ s.su.nextDue.get k ≠ some at_) :
    exec (.soundingDue i) s = .next (({ s with su := { s.su with due := s.su.due.insert i.val } } : State).servePath i) := by
  have fell : s.su.due ||| s.fallingDue i = s.su.due.insert i.val := FlagSet.ext_mem fun k => by
    rw [FlagSet.mem_or, FlagSet.mem_insert_fin]
    by_cases e : k = i
    · subst e
      rw [State.fallingDue_iff.2 ⟨measured, rfl, at_, time, reached⟩]
      simp
    · have stays : (s.fallingDue i).mem k.val = false := Bool.eq_false_iff.2 fun h => (alone k e).2 ((State.fallingDue_iff.1 h).2.1.trans time)
      rw [stays]
      simp [Ne.symm e]
  rw [State.exec_soundingDue running, fell]
  refine congrArg Host.Outcome.next (State.serve_alone running fun k other => ?_)
  exact (FlagSet.mem_insert_fin ..).trans (by simp [(alone k other).1, Ne.symm other])

/-! ### A context lost (R31) -/

/-- A lost result counts against a trial, and moves no estimate (R6). -/
theorem Path.takeResult_lost (p : Path) (set : Settings) : p.takeResult set .lost =
    ⟨{ p with goodCount := if p.life = .trial then 0 else p.goodCount, trialFailed := decide (p.life = .trial) || p.trialFailed },
      if p.life = .trial then some .trialFailed else none⟩ := by
  obtain ⟨life⟩ := p
  cases life <;> rfl

theorem Context.expired_iff (x : Context) (time : Stamp) : x.expired time = true ↔ ∃ d, x.deadline = some d ∧ d < time.toNat := by
  unfold Context.expired
  cases x.deadline <;> simp

/-- A context past its deadline: freed, counted, and its result handed on (R31, R35). -/
theorem State.lose_eq {s : State} (c : ContextId) (x : Context) :
    let p := s.paths.get x.path
    s.lose c x = State.serve { s with
      su := { s.su with contexts := s.su.contexts.set c none }
      paths := s.paths.set x.path { p with
        counters := { p.counters with soundingsLost := bump p.counters.soundingsLost }
        weather := if p.measured then { p.weather with lostSoundings := bump p.weather.lostSoundings } else p.weather
        goodCount := if p.life = .trial then 0 else p.goodCount
        trialFailed := p.life = .trial || p.trialFailed }
      nu := if p.life = .trial then s.nu.raisePath .trialFailed x.path else s.nu } := by
  intro p
  refine congrArg State.serve ?_
  rw [State.handResult_eq, Path.takeResult_lost]
  have counted : ((s.onSu (·.free c)).countPath x.path fun k => { k with soundingsLost := bump k.soundingsLost }).paths.get x.path =
      { p with counters := { p.counters with soundingsLost := bump p.counters.soundingsLost } } := Table.get_modify_self ..
  rw [counted]
  change ({ s with su := _, paths := (s.paths.set x.path _).set x.path _, nu := _ } : State) = _
  rw [Table.set_set]
  have told : (match if p.life = .trial then some PathEvent.trialFailed else none with | none => s.nu | some k => s.nu.raisePath k x.path)
      = if p.life = .trial then s.nu.raisePath .trialFailed x.path else s.nu := by
    by_cases trial : p.life = .trial
    · rw [if_pos trial, if_pos trial]
    · rw [if_neg trial, if_neg trial]
  rw [← told]
  rfl

/-- Settles O45: the path's turn alone, the paths that fall due, and the context lost or not yet. -/
theorem soundingsAreIssuedAndLost : Obligations.SoundingsAreIssuedAndLost := by
  refine ⟨?_, fun s i running => ⟨s.fallingDue i, fun k => State.fallingDue_iff, State.exec_soundingDue running i⟩, fun s c x d running held deadline passed => ?_, fun s c early => ?_⟩
  · intro s i at_ running time reached measured alone p l usable due
    rw [State.soundingDue_alone running time reached measured alone]
    have can : ({ s with su := { s.su with due := due } } : State).canIssue i = true ↔ usable := by
      rw [State.canIssue_iff]
      exact and_iff_right ((FlagSet.mem_insert_fin ..).trans (by simp))
    refine ⟨fun blocked => ?_, fun carries full => ⟨fun waits => ?_, fun fresh => ?_⟩, ?_⟩
    · exact congrArg Host.Outcome.next (State.servePath_blocked (Bool.eq_false_iff.2 fun h => blocked (can.1 h)))
    · exact congrArg Host.Outcome.next ((State.servePath_full (can.2 carries) full).trans (if_pos waits))
    · exact congrArg Host.Outcome.next ((State.servePath_full (can.2 carries) full).trans (if_neg (by simp [fresh])))
    · intro c carries free lowest v timeout su
      have turn := State.servePath_issued (can.2 carries) (SoundingUnit.freeContext_eq free lowest)
      have schedule : due.erase i.val = s.su.due.erase i.val := FlagSet.ext_mem fun k => by
        simp only [due, FlagSet.mem_erase_fin, FlagSet.mem_insert_fin]
        by_cases e : i = k <;> simp [e]
      rw [turn]
      refine ⟨fun sending => congrArg Host.Outcome.next ?_, fun idle noEcho noSound => congrArg Host.Outcome.next ?_⟩
      · refine (State.boundary_of_sending ?_).trans ?_
        · intro idle
          exact sending ((congrArg LinePort.tx (Table.get_set_self s.lines p.line { l with sounds := l.sounds ++ [⟨c, p.tag, s.su.nextId⟩] })).symm.trans idle)
        · simp only [su, ← schedule, timeout, ← timeoutOf_eq]
          rfl
      · refine (State.sounding_boundary (s := { s with su := { s.su with due := due } }) running ((LinePort.usable_iff _).2 carries) idle noEcho noSound).trans ?_
        simp only [su, ← schedule, timeout, ← timeoutOf_eq, ← cellTime_eq]
        rfl
  · refine congrArg Host.Outcome.next ?_
    have lost : s.soundingLost c = s.lose c x := by
      rw [State.soundingLost, held]
      exact if_pos (by rw [(x.expired_iff _).2 ⟨d, deadline, passed⟩, running]; rfl)
    exact lost.trans (State.lose_eq c x)
  · refine congrArg Host.Outcome.next ?_
    rw [State.soundingLost]
    cases held : s.su.contexts.get c with
    | none => rfl
    | some x =>
      refine if_neg fun h => ?_
      obtain ⟨d, deadline, passed⟩ := (x.expired_iff _).1 (Bool.and_eq_true_iff.1 h).1
      exact absurd (early x held d deadline) (by omega)

end Sys2Proof.Machine
end

section
/-! PATH-RETIRE: the path leaves every unit, and the freed contexts are handed on (R12, R13, R15, R28, R36). -/

namespace Sys2Proof.Machine

/-! ### What the service leaves of paths that are not due -/

/-- A path that is not due stays in its place through the service. -/
theorem State.serve_leaves {s : State} {i : PathSlot} (h : s.su.due.mem i.val = false) : State.Leaves i s s.serve := by
  have chain (l : List PathSlot) (s : State) (h : s.su.due.mem i.val = false) : State.Leaves i s (l.foldl State.servePath s) := by
    induction l generalizing s with
    | nil => exact .refl i s
    | cons k l ih =>
      have turn : State.Leaves i s (s.servePath k) := by
        by_cases e : i = k
        · subst e
          rw [State.servePath_of_not_due h]
          exact .refl i s
        · exact s.servePath_leaves e
      exact turn.trans (ih _ (turn.due.trans h))
  rw [State.serve_eq]
  split
  · exact .refl i s
  · exact chain _ s h

/-- A path without a context that is not due. -/
structure State.Silent (i : PathSlot) (s : State) : Prop where
  due : s.su.due.mem i.val = false
  contexts : ∀ c x, s.su.contexts.get c = some x → x.path ≠ i

theorem State.Departs.contexts {s t : State} {l : Line} (h : State.Departs l s t) {c : ContextId} {y : Context} (at_c : t.su.contexts.get c = some y) :
    ∃ x, s.su.contexts.get c = some x ∧ x.Departed y := by
  cases at_s : s.su.contexts.get c with
  | none => rw [h.free c at_s] at at_c; cases at_c
  | some x =>
    obtain ⟨z, at_t, xz⟩ := h.taken c x at_s
    cases at_c.symm.trans at_t
    exact ⟨x, rfl, xz⟩

/-- A turn leaves a silent path silent and its record as it was. -/
theorem State.Silent.servePath {i : PathSlot} {s : State} (h : s.Silent i) (k : PathSlot) : (s.servePath k).Silent i ∧ (s.servePath k).paths.get i = s.paths.get i := by
  by_cases e : i = k
  · subst e
    rw [State.servePath_of_not_due h.due]
    exact ⟨h, rfl⟩
  have due := (s.servePath_leaves e).due.trans h.due
  obtain ⟨-, same⟩ | ⟨-, c, -, departs⟩ | ⟨-, -, same⟩ := s.servePath_turn k
  · rw [same]
    exact ⟨h, rfl⟩
  · have away : ∀ m x, (s.sounding k c).su.contexts.get m = some x → x.path ≠ i := fun m x at_m => by
      simp only [State.sounding, SoundingUnit.issue, Table.get_set] at at_m
      split at at_m
      · cases at_m
        exact Ne.symm e
      · exact h.contexts m x at_m
    refine ⟨⟨due, fun m y at_m => ?_⟩, departs.unsent i away⟩
    obtain ⟨x, at_s, xy⟩ := departs.contexts at_m
    rw [xy]
    exact away m x at_s
  · refine ⟨⟨due, ?_⟩, ?_⟩ <;> rw [same] <;> split
    · exact h.contexts
    · exact h.contexts
    · rfl
    · exact Table.get_set_ne _ e _

theorem State.Silent.serve {i : PathSlot} {s : State} (h : s.Silent i) : s.serve.Silent i ∧ s.serve.paths.get i = s.paths.get i := by
  have chain (l : List PathSlot) (s : State) (h : s.Silent i) : (l.foldl State.servePath s).Silent i ∧ (l.foldl State.servePath s).paths.get i = s.paths.get i := by
    induction l generalizing s with
    | nil => exact ⟨h, rfl⟩
    | cons k l ih =>
      obtain ⟨silent, same⟩ := h.servePath k
      obtain ⟨silent', same'⟩ := ih _ silent
      exact ⟨silent', same'.trans same⟩
  rw [State.serve_eq]
  split
  · exact ⟨h, rfl⟩
  · exact chain _ s h

/-! ### The path withdrawn (R12, R13, R15) -/

/-- The notices of the feeds whose lead a retired path was, in order of feed slot (R13). -/
def State.toldGone (s : State) (i : PathSlot) : NoticeUnit :=
  (List.finRange 64).foldl (fun n k => if (s.feeds.get k).leads i then n.take (s.notice k (some i) none .pathGone) else n) s.nu

/-- A path withdrawn from every unit, before the freed contexts are handed on (R12). -/
def State.retired (s : State) (i : PathSlot) : State := if ((s.released i).paths.get i).queued = 0 then (s.released i).withdraw i else s.released i

theorem State.retired_eq (s : State) (i : PathSlot) : s.retired i = { s with
    paths := s.paths.set i (if (s.paths.get i).queued = 0 then .vacant else { s.paths.get i with life := .withdrawing })
    su := { s.su with
      contexts := (s.voidContexts fun c => c.path = i).su.contexts
      nextDue := s.su.nextDue.set i none
      due := s.su.due.erase i.val
      waiting := s.su.waiting.erase i.val }
    lines := (s.voidContexts fun c => c.path = i).lines
    feeds := s.feeds.map (Feed.forget i)
    nu := if (s.paths.get i).queued = 0 then (s.toldGone i).raisePath .withdrawn i else s.toldGone i } := by
  have queued : ((s.released i).paths.get i).queued = (s.paths.get i).queued := by
    change ((s.paths.modify i fun p => { p with life := .withdrawing }).get i).queued = _
    rw [Table.get_modify_self]
  have told : (s.released i).nu = s.toldGone i := List.foldl_filter ..
  unfold State.retired
  rw [queued]
  split
  · change ({ s with paths := (s.paths.set i _).set i .vacant, su := _, lines := _, feeds := _, nu := (s.released i).nu.raisePath .withdrawn i } : State) = _
    rw [Table.set_set, told]
    rfl
  · change ({ s with paths := _, su := _, lines := _, feeds := _, nu := (s.released i).nu } : State) = _
    rw [told]
    rfl

theorem State.retired_silent (s : State) (i : PathSlot) : (s.retired i).Silent i := by
  rw [State.retired_eq]
  refine ⟨(FlagSet.mem_erase_fin ..).trans (by simp), fun c x at_c => ?_⟩
  have kept := (Eq.congr_left (State.voidContexts_contexts ..)).1 at_c
  rw [Option.filter_eq_some_iff] at kept
  simpa using kept.2

/-- Settles O12: the path is withdrawn from every unit, and the service that follows leaves it so. -/
theorem pathRetireWithdrawsThePath : Obligations.PathRetireWithdrawsThePath := by
  intro s i idle measured p led told
  let u : State := (s.retired i).withPort (s.answered [byteOf i.val] 0x15 .done [])
  have same : u = { s with
      cmp := s.answered [byteOf i.val] 0x15 .done []
      paths := s.paths.set i (if p.queued = 0 then .vacant else { p with life := .withdrawing })
      su := { contexts := u.su.contexts, nextDue := s.su.nextDue.set i none, due := s.su.due.erase i.val, waiting := s.su.waiting.erase i.val
              nextId := s.su.nextId, jitter := s.su.jitter }
      lines := u.lines
      feeds := u.feeds
      nu := if p.queued = 0 then
          { told with flags := told.flags.insert 5, pathSets := told.pathSets.set 5 ((told.pathSets.get 5).insert i.val) }
        else told } := by
    simp only [u]
    rw [State.retired_eq]
    rfl
  have run : exec (.pathRetire [byteOf i.val]) s = .next u.serve := by
    refine congrArg Host.Outcome.next (request_serve (u := s.retired i) (r := done []) idle ?_)
    have taken : (s.taken [byteOf i.val]).pathRetire [byteOf i.val] = (((s.taken [byteOf i.val]).retired i).serve, done []) :=
      State.slotCommand_taken (s := s.taken _) (Path.active_of_measured measured).1 (Path.active_of_measured measured).2 _
    rw [taken, State.retired_eq, State.retired_eq s]
    rfl
  have contexts (c : ContextId) (x : Context) : u.su.contexts.get c = some x ↔ s.su.contexts.get c = some x ∧ x.path ≠ i := by
    simp only [u]
    rw [State.retired_eq]
    refine (Eq.congr_left (State.voidContexts_contexts ..)).trans ?_
    rw [Option.filter_eq_some_iff]
    simp
  have lines (l : Line) : u.lines.get l = { s.lines.get l with
      sounds := (s.lines.get l).sounds.filter fun e => (s.su.contexts.get e.context).all fun x => x.path ≠ i } := by
    simp only [u]
    rw [State.retired_eq]
    refine (State.voidContexts_lines ..).trans ?_
    simp only [decide_not]
  have paths : u.paths = s.paths.set i (if p.queued = 0 then .vacant else { p with life := .withdrawing }) := congrArg State.paths same
  have silent : u.Silent i := ⟨(s.retired_silent i).due, (s.retired_silent i).contexts⟩
  obtain ⟨silentAfter, pathAfter⟩ := silent.serve
  have sounds := u.serve_sounds
  have place := State.serve_leaves silent.due
  refine ⟨u, u.serve, run, rfl, same, contexts, lines, fun k => ?_, sounds.rest, pathAfter, fun m other => ?_, silentAfter.contexts, fun c x at_c away => ?_, ?_,
    silentAfter.due, ?_, fun m idle_m => ?_, fun l => ⟨?_, ?_⟩⟩
  · have fed : u.feeds.get k = (s.feeds.get k).forget i := by
      simp only [u]
      rw [State.retired_eq]
      exact Table.get_map ..
    obtain ⟨sends, is⟩ | ⟨off, is⟩ := Feed.forget_cases i (s.feeds.get k)
    · rw [fed, is]
      exact (if_pos sends).symm
    · rw [fed, is]
      exact (if_neg off).symm
  · rw [sounds.paths m, paths, Table.get_set_ne _ other]
  · exact sounds.taken c x ((contexts c x).2 ⟨at_c, away⟩)
  · rw [place.nextDue, same]
    exact Table.get_set_self ..
  · rw [place.waiting, same]
    exact (FlagSet.mem_erase_fin ..).trans (by simp)
  · have stays : u.su.due.mem m.val = false := by
      rw [same]
      exact (FlagSet.mem_erase_fin ..).trans (by simp [idle_m])
    rw [(State.serve_leaves stays).nextDue, same]
    exact Table.get_set ..
  · rw [(u.serve_onlySends.lines l).frames, lines l]
    rfl
  · rw [sounds.lines l, lines l]

end Sys2Proof.Machine
end

section
/-! The end of the walk: what each held pin change does to its own line, and that it spares the others (R62, R63, R66, R67, R76, R174). -/

namespace Sys2Proof.Machine

/-! ### What every step of the end of the walk keeps -/

/-- A notice unit that was told of all that another was. -/
structure NoticeUnit.Within (n m : NoticeUnit) : Prop where
  flags : ∀ f : Fin 17, n.flags.mem f.val = true → m.flags.mem f.val = true
  lines : ∀ (k : Fin 3) (l : Line), (n.lineSets.get k).mem l.val = true → (m.lineSets.get k).mem l.val = true
  paths : ∀ (k : Fin 6) (i : PathSlot), (n.pathSets.get k).mem i.val = true → (m.pathSets.get k).mem i.val = true

theorem NoticeUnit.Within.refl (n : NoticeUnit) : n.Within n := ⟨fun _ h => h, fun _ _ h => h, fun _ _ h => h⟩

theorem NoticeUnit.Within.trans {n m k : NoticeUnit} (h : n.Within m) (g : m.Within k) : n.Within k :=
  ⟨fun f x => g.flags f (h.flags f x), fun j l x => g.lines j l (h.lines j l x), fun j i x => g.paths j i (h.paths j i x)⟩

theorem NoticeUnit.mem_raiseLine_flags (n : NoticeUnit) (k : LineEvent) (l : Line) (f : Fin 17) :
    (n.raiseLine k l).flags.mem f.val = true ↔ n.flags.mem f.val = true ∨ k.index.val + 6 = f.val := by
  change (n.flags.insert _).mem f.val = true ↔ _
  rw [FlagSet.mem_insert _ _ _ f.isLt, Bool.or_eq_true, decide_eq_true_eq]

theorem NoticeUnit.mem_raiseLine_lines (n : NoticeUnit) (k : LineEvent) (l : Line) (j : Fin 3) (m : Line) :
    ((n.raiseLine k l).lineSets.get j).mem m.val = true ↔ (n.lineSets.get j).mem m.val = true ∨ (j = k.index ∧ l = m) := by
  change ((n.lineSets.modify _ (·.insert l.val)).get j).mem m.val = true ↔ _
  rw [Table.get_modify]
  split
  · next e => rw [e, FlagSet.mem_insert_fin, Bool.or_eq_true, decide_eq_true_eq]; simp
  · next e => simp [e]

theorem NoticeUnit.Within.raiseLine (n : NoticeUnit) (k : LineEvent) (l : Line) : n.Within (n.raiseLine k l) :=
  ⟨fun f h => (n.mem_raiseLine_flags k l f).2 (.inl h), fun j m h => (n.mem_raiseLine_lines k l j m).2 (.inl h), fun _ _ h => h⟩

/-- What every step of the end of the walk keeps: the port, the settings, the clock, the pins, what NU was told, and which paths are measured on which lines. -/
structure State.Wakes (s t : State) : Prop where
  cmp : t.cmp = s.cmp
  settings : t.settings = s.settings
  clock : t.clock = s.clock
  presentPin : t.presentPin = s.presentPin
  lockPin : t.lockPin = s.lockPin
  told : s.nu.Within t.nu
  measured : ∀ i, (s.paths.get i).measured = true → (t.paths.get i).measured = true ∧ (t.paths.get i).line = (s.paths.get i).line

theorem State.Wakes.refl (s : State) : s.Wakes s := ⟨rfl, rfl, rfl, rfl, rfl, .refl _, fun _ h => ⟨h, rfl⟩⟩

theorem State.Wakes.trans {s t u : State} (h : s.Wakes t) (k : t.Wakes u) : s.Wakes u := by
  refine ⟨k.cmp.trans h.cmp, k.settings.trans h.settings, k.clock.trans h.clock, k.presentPin.trans h.presentPin, k.lockPin.trans h.lockPin, h.told.trans k.told,
    fun i live => ?_⟩
  obtain ⟨live', line'⟩ := h.measured i live
  obtain ⟨live'', line''⟩ := k.measured i live'
  exact ⟨live'', line''.trans line'⟩

/-- A line without carrier, with nothing on it and no context. -/
structure State.Still (s : State) (l : Line) : Prop where
  grade : (s.lines.get l).grade = 0
  urgent : (s.lines.get l).urgent = []
  normal : (s.lines.get l).normal = []
  tx : (s.lines.get l).tx = none
  echoes : (s.lines.get l).echoes = []
  sounds : (s.lines.get l).sounds = []
  contexts : ∀ c x, s.su.contexts.get c = some x → x.line ≠ l

/-- A step that spares line `l`: its carrier, presence, lock and carrier losses, its stillness, and the weather and estimates of its measured paths. -/
structure State.Spares (l : Line) (s t : State) : Prop extends State.Wakes s t where
  grade : (t.lines.get l).grade = (s.lines.get l).grade
  presence : (t.lines.get l).presence = (s.lines.get l).presence
  lock : (t.lines.get l).lock = (s.lines.get l).lock
  losses : (t.lines.get l).counters.carrierLosses = (s.lines.get l).counters.carrierLosses
  still : s.Still l → t.Still l
  weather : ∀ i, (s.paths.get i).measured = true → (s.paths.get i).line = l →
    (t.paths.get i).weather.state = (s.paths.get i).weather.state ∧ (t.paths.get i).est = (s.paths.get i).est

theorem State.Spares.refl (l : Line) (s : State) : State.Spares l s s := ⟨.refl s, rfl, rfl, rfl, rfl, id, fun _ _ _ => ⟨rfl, rfl⟩⟩

theorem State.Spares.trans {l : Line} {s t u : State} (h : State.Spares l s t) (k : State.Spares l t u) : State.Spares l s u := by
  refine ⟨h.toWakes.trans k.toWakes, k.grade.trans h.grade, k.presence.trans h.presence, k.lock.trans h.lock, k.losses.trans h.losses, fun x => k.still (h.still x),
    fun i live on => ?_⟩
  obtain ⟨live', line'⟩ := h.measured i live
  obtain ⟨state, est⟩ := h.weather i live on
  obtain ⟨state', est'⟩ := k.weather i live' (line'.trans on)
  exact ⟨state'.trans state, est'.trans est⟩

/-! ### The service, the boundary and the cascade -/

theorem State.OnlySends.wakes {s t : State} (h : s.OnlySends t) : s.Wakes t := by
  refine ⟨?_, ?_, ?_, ?_, ?_, ?_, fun i live => ?_⟩
  iterate 6 rw [h.rest]
  · exact .refl _
  · rw [h.paths i]
    exact ⟨live, rfl⟩

/-- Issuing soundings spares every line (R59). -/
theorem State.serve_spares (l : Line) (s : State) : State.Spares l s s.serve := by
  have sounds := s.serve_sounds
  have line := sounds.lines l
  refine ⟨s.serve_onlySends.wakes, by rw [line], by rw [line], by rw [line], by rw [line], fun still => ?_, fun i _ _ => ?_⟩
  · have same := sounds.quiet l (by simp [LinePort.usable, LinePort.carrier, still.grade])
    refine ⟨by rw [same, still.grade], by rw [same, still.urgent], by rw [same, still.normal], by rw [same, still.tx], by rw [same, still.echoes], by rw [same, still.sounds],
      fun c y at_c e => ?_⟩
    obtain ⟨x, at_s, xy⟩ | usable := sounds.origin c y at_c
    · rw [xy] at e
      exact still.contexts c x at_s e
    · rw [e] at usable
      simp [LinePort.usable, LinePort.carrier, still.grade] at usable
  · rw [sounds.paths i]
    exact ⟨rfl, rfl⟩

/-- A frame boundary of a line spares the others (R104). -/
theorem State.boundary_spares {l m : Line} (other : l ≠ m) (s : State) : State.Spares l s (s.boundary m) := by
  have departs := s.boundary_departs m
  have line := departs.elsewhere l other
  refine ⟨(s.boundary_onlySends m).wakes, by rw [line], by rw [line], by rw [line], by rw [line], fun still => ?_, fun i _ _ => ?_⟩
  · refine ⟨by rw [line, still.grade], by rw [line, still.urgent], by rw [line, still.normal], by rw [line, still.tx], by rw [line, still.echoes], by rw [line, still.sounds],
      fun c y at_c => ?_⟩
    obtain ⟨x, at_s, xy⟩ := departs.contexts at_c
    rw [xy]
    exact still.contexts c x at_s
  · rw [departs.paths i]
    exact ⟨rfl, rfl⟩

/-- A measured path is not one that a flush withdraws. -/
theorem Path.not_withdrawing_of_measured {p : Path} (h : p.measured = true) : p.life ≠ .withdrawing := fun e => by simp [Path.measured, e] at h

/-- A carrier loss's effect on a measured path of the line (R66). -/
theorem State.lostCarrier_path (s : State) (l : Line) {i : PathSlot} (live : (s.paths.get i).measured = true) (on : (s.paths.get i).line = l) :
    ∃ queued, (s.lostCarrier l).paths.get i = { s.paths.get i with
      est := if (s.paths.get i).est = .valid then .stale else (s.paths.get i).est
      weather := { (s.paths.get i).weather with state := .faded, run := 0, minGrade := 0 }
      queued := queued } := by
  obtain ⟨-, -, -, -, -, paths, -⟩ := s.losesCarrier l
  obtain ⟨-, -, kept⟩ := paths i
  have is := kept ⟨Path.live_of_measured live, on⟩ fun drained => Path.not_withdrawing_of_measured live drained.2.1
  dsimp only at is
  rw [if_pos live] at is
  exact ⟨_, is⟩

theorem State.lostCarrier_wakes (s : State) (l : Line) : s.Wakes (s.lostCarrier l) := by
  obtain ⟨rest, -, -, -, -, paths, -, lineSets, pathSets, flags⟩ := s.losesCarrier l
  refine ⟨by rw [rest], by rw [rest], by rw [rest], by rw [rest], by rw [rest], ⟨fun f h => (flags f).2 (.inl h), fun k m h => (lineSets k m).2 (.inl h),
    fun k i h => (pathSets k i).2 (.inl h)⟩, fun i live => ?_⟩
  by_cases on : (s.paths.get i).line = l
  · obtain ⟨queued, is⟩ := s.lostCarrier_path l live on
    rw [is]
    exact ⟨live, rfl⟩
  · rw [(paths i).1 fun h => on h.2]
    exact ⟨live, rfl⟩

/-- A carrier loss spares the other lines (R66). -/
theorem State.lostCarrier_spares {l m : Line} (other : l ≠ m) (s : State) : State.Spares l s (s.lostCarrier m) := by
  obtain ⟨-, -, -, lines, contexts, paths, -⟩ := s.losesCarrier m
  have line := lines l other
  refine ⟨s.lostCarrier_wakes m, by rw [line], by rw [line], by rw [line], by rw [line], fun still => ?_, fun i _ on => ?_⟩
  · refine ⟨by rw [line, still.grade], by rw [line, still.urgent], by rw [line, still.normal], by rw [line, still.tx], by rw [line, still.echoes],
      by rw [line, still.sounds]; rfl, fun c x at_c => still.contexts c x ((contexts c x).1 at_c).1⟩
  · rw [(paths i).1 fun h => other (on.symm.trans h.2)]
    exact ⟨rfl, rfl⟩

theorem State.carrierLoss_wakes (s : State) (l : Line) : s.Wakes (s.carrierLoss l) := (s.lostCarrier_wakes l).trans (State.serve_onlySends _).wakes

theorem State.carrierLoss_spares {l m : Line} (other : l ≠ m) (s : State) : State.Spares l s (s.carrierLoss m) :=
  (State.lostCarrier_spares other s).trans (State.serve_spares l _)

/-- What a carrier loss leaves on its own line (R59, R66, R110). -/
structure State.Loses (l : Line) (s t : State) : Prop where
  flag : t.nu.flags.mem 6 = true
  member : (t.nu.lineSets.get 0).mem l.val = true
  still : t.Still l
  losses : (t.lines.get l).counters.carrierLosses = bump (s.lines.get l).counters.carrierLosses
  paths : ∀ i, (s.paths.get i).measured = true → (s.paths.get i).line = l → (t.paths.get i).weather.state = .faded ∧ (t.paths.get i).est ≠ .valid
    ∧ ((s.paths.get i).weather.state ≠ .faded → t.nu.flags.mem 2 = true ∧ (t.nu.pathSets.get 2).mem i.val = true)

theorem State.Loses.then {l : Line} {s t u : State} (wakes : s.Wakes t) (h : State.Loses l s t) (k : State.Spares l t u) : State.Loses l s u := by
  refine ⟨k.told.flags 6 h.flag, k.told.lines 0 l h.member, k.still h.still, k.losses.trans h.losses, fun i live on => ?_⟩
  obtain ⟨live', line'⟩ := wakes.measured i live
  obtain ⟨faded, stale, told⟩ := h.paths i live on
  obtain ⟨state, est⟩ := k.weather i live' (line'.trans on)
  exact ⟨by rw [state, faded], by rw [est]; exact stale, fun fresh => ⟨k.told.flags 2 (told fresh).1, k.told.paths 2 i (told fresh).2⟩⟩

theorem State.lostCarrier_loses (s : State) (l : Line) : State.Loses l s (s.lostCarrier l) := by
  obtain ⟨-, -, line, -, contexts, -, -, lineSets, pathSets, flags⟩ := s.losesCarrier l
  refine ⟨(flags 6).2 (.inr (.inl rfl)), (lineSets 0 l).2 (.inr ⟨rfl, rfl⟩), ?_, by rw [line], fun i live on => ?_⟩
  · exact ⟨by rw [line], by rw [line], by rw [line], by rw [line], by rw [line], by rw [line], fun c x at_c => ((contexts c x).1 at_c).2⟩
  · obtain ⟨queued, is⟩ := s.lostCarrier_path l live on
    refine ⟨by rw [is], ?_, fun fresh => ⟨(flags 2).2 (.inr (.inr (.inl ⟨rfl, i, live, on, fresh⟩))), (pathSets 2 i).2 (.inr (.inl ⟨rfl, live, on, fresh⟩))⟩⟩
    rw [is]
    dsimp only
    split
    · decide
    · assumption

theorem State.carrierLoss_loses (s : State) (l : Line) : State.Loses l s (s.carrierLoss l) :=
  (s.lostCarrier_loses l).then (s.lostCarrier_wakes l) (State.serve_spares l _)

/-- A carrier loss once the line's record was changed apart from its carrier losses. -/
theorem State.Loses.of_before {l : Line} {s u t : State} (h : State.Loses l u t) (paths : u.paths = s.paths)
    (losses : (u.lines.get l).counters.carrierLosses = (s.lines.get l).counters.carrierLosses) : State.Loses l s t :=
  ⟨h.flag, h.member, h.still, by rw [h.losses, losses], by rw [← paths]; exact h.paths⟩

/-! ### Changes of one line's record and events -/

section Steps
variable (s : State)

theorem State.onLine_wakes (m : Line) (f : LinePort → LinePort) : s.Wakes (s.onLine m f) := ⟨rfl, rfl, rfl, rfl, rfl, .refl _, fun _ h => ⟨h, rfl⟩⟩

theorem State.onLine_spares {l m : Line} (other : l ≠ m) (f : LinePort → LinePort) : State.Spares l s (s.onLine m f) := by
  have line : (s.onLine m f).lines.get l = s.lines.get l := Table.get_modify_ne _ other _
  exact ⟨s.onLine_wakes m f, by rw [line], by rw [line], by rw [line], by rw [line],
    fun still => ⟨by rw [line, still.grade], by rw [line, still.urgent], by rw [line, still.normal], by rw [line, still.tx], by rw [line, still.echoes],
      by rw [line, still.sounds], still.contexts⟩, fun _ _ _ => ⟨rfl, rfl⟩⟩

theorem State.raiseLine_spares (l : Line) (k : LineEvent) (m : Line) : State.Spares l s (s.raiseLine k m) :=
  ⟨⟨rfl, rfl, rfl, rfl, rfl, .raiseLine _ k m, fun _ h => ⟨h, rfl⟩⟩, rfl, rfl, rfl, rfl,
    fun still => ⟨still.grade, still.urgent, still.normal, still.tx, still.echoes, still.sounds, still.contexts⟩, fun _ _ _ => ⟨rfl, rfl⟩⟩

/-- A grade recorded on a line's paths spares every line (R69). -/
theorem State.graded_spares (l m : Line) (grade : Fin 8) : State.Spares l s { s with paths := s.paths.map (graded m grade) } := by
  have path (i : PathSlot) : (s.paths.map (graded m grade)).get i = s.paths.get i
      ∨ (s.paths.map (graded m grade)).get i = { s.paths.get i with weather := { (s.paths.get i).weather with minGrade := min (s.paths.get i).weather.minGrade grade } } := by
    rw [Table.get_map, graded]
    split
    · exact .inr rfl
    · exact .inl rfl
  refine ⟨⟨rfl, rfl, rfl, rfl, rfl, .refl _, fun i live => ?_⟩, rfl, rfl, rfl, rfl,
    fun still => ⟨still.grade, still.urgent, still.normal, still.tx, still.echoes, still.sounds, still.contexts⟩, fun i _ _ => ?_⟩
  · obtain is | is := path i <;> dsimp only <;> rw [is]
    · exact ⟨live, rfl⟩
    · exact ⟨live, rfl⟩
  · obtain is | is := path i <;> dsimp only <;> rw [is]
    · exact ⟨rfl, rfl⟩
    · exact ⟨rfl, rfl⟩

theorem State.carrierBack_spares {l m : Line} (other : l ≠ m) (grade : Fin 8) : State.Spares l s (carrierBack s m grade) :=
  (s.onLine_spares other fun p => { p with grade := grade }).trans ((State.raiseLine_spares _ l .up m).trans (State.graded_spares _ l m grade))

theorem State.carrierBack_wakes (m : Line) (grade : Fin 8) : s.Wakes (carrierBack s m grade) :=
  (s.onLine_wakes m fun p => { p with grade := grade }).trans ((State.raiseLine_spares _ m .up m).toWakes.trans (State.graded_spares _ m m grade).toWakes)

/-! ### A held presence change (R62, R76) -/

/-- The line as a modem's removal finds it, before a carrier loss. -/
def State.unfitted (m : RadioLine) : State := (s.onLine (radioLine m) fun p => { p with presence := false, timer := none }).raiseLine .modemChange (radioLine m)

theorem State.unfitted_line (m : RadioLine) : (s.unfitted m).lines.get (radioLine m) = { s.lines.get (radioLine m) with presence := false, timer := none } :=
  Table.get_modify_self ..

theorem State.removeModem_eq (m : RadioLine) : s.removeModem m = if (s.lines.get (radioLine m)).grade ≠ 0 then (s.unfitted m).carrierLoss (radioLine m) else s.unfitted m := by
  have carrier : ((s.unfitted m).lines.get (radioLine m)).carrier = decide ((s.lines.get (radioLine m)).grade ≠ 0) := by
    rw [State.unfitted_line]
    rfl
  change (if ((s.unfitted m).lines.get (radioLine m)).carrier then _ else _) = _
  rw [carrier]
  simp only [decide_eq_true_eq]
  rfl

theorem State.unfitted_spares {l : Line} {m : RadioLine} (other : l ≠ radioLine m) : State.Spares l s (s.unfitted m) :=
  (s.onLine_spares other _).trans (State.raiseLine_spares _ l _ _)

theorem State.unfitted_wakes (m : RadioLine) : s.Wakes (s.unfitted m) := (s.onLine_wakes _ _).trans (State.raiseLine_spares _ (radioLine m) _ _).toWakes

theorem State.removeModem_wakes (m : RadioLine) : s.Wakes (s.removeModem m) := by
  rw [State.removeModem_eq]
  split
  · exact (s.unfitted_wakes m).trans (State.carrierLoss_wakes _ _)
  · exact s.unfitted_wakes m

theorem State.fitModem_wakes (m : RadioLine) : s.Wakes (s.fitModem m) := (s.onLine_wakes _ _).trans (State.raiseLine_spares _ (radioLine m) _ _).toWakes

/-- A held presence change spares the other lines. -/
theorem State.settlePresence_spares {l : Line} {m : RadioLine} (other : l ≠ radioLine m) : State.Spares l s (s.settlePresence m) := by
  unfold State.settlePresence
  split
  · exact (s.onLine_spares other _).trans (State.raiseLine_spares _ l _ _)
  · rw [State.removeModem_eq]
    split
    · exact (s.unfitted_spares other).trans (State.carrierLoss_spares other _)
    · exact s.unfitted_spares other
  · exact .refl l s
  · exact .refl l s

theorem State.settlePresence_wakes (m : RadioLine) : s.Wakes (s.settlePresence m) := by
  unfold State.settlePresence
  split
  · exact s.fitModem_wakes m
  · exact s.removeModem_wakes m
  · exact .refl s
  · exact .refl s

end Steps

theorem State.carrierLoss_line (s : State) (l : Line) : ((s.carrierLoss l).lines.get l).grade = 0 ∧ ((s.carrierLoss l).lines.get l).presence = (s.lines.get l).presence
    ∧ ((s.carrierLoss l).lines.get l).lock = (s.lines.get l).lock := by
  obtain ⟨-, -, line, -⟩ := s.losesCarrier l
  have spares := State.serve_spares l (s.lostCarrier l)
  rw [State.carrierLoss_eq]
  exact ⟨by rw [spares.grade, line], by rw [spares.presence, line], by rw [spares.lock, line]⟩

/-- What a modem's removal leaves on its line (R62). -/
theorem State.removeModem_own (s : State) (m : RadioLine) : ((s.removeModem m).lines.get (radioLine m)).presence = false
    ∧ ((s.removeModem m).lines.get (radioLine m)).grade = 0 ∧ (s.removeModem m).nu.flags.mem 8 = true ∧ ((s.removeModem m).nu.lineSets.get 2).mem m.val = true
    ∧ ((s.lines.get (radioLine m)).grade ≠ 0 → State.Loses (radioLine m) s (s.removeModem m)) := by
  have flag : (s.unfitted m).nu.flags.mem (8 : Fin 17).val = true := (NoticeUnit.mem_raiseLine_flags ..).2 (.inr rfl)
  have member : ((s.unfitted m).nu.lineSets.get 2).mem (radioLine m).val = true := (NoticeUnit.mem_raiseLine_lines ..).2 (.inr ⟨rfl, rfl⟩)
  rw [State.removeModem_eq]
  split
  · next carrier =>
    have wakes := (s.unfitted m).carrierLoss_wakes (radioLine m)
    obtain ⟨grade, presence, -⟩ := (s.unfitted m).carrierLoss_line (radioLine m)
    refine ⟨by rw [presence, State.unfitted_line], grade, wakes.told.flags 8 flag, wakes.told.lines 2 _ member, fun _ => ?_⟩
    exact ((s.unfitted m).carrierLoss_loses (radioLine m)).of_before rfl (by rw [State.unfitted_line])
  · next lost =>
    refine ⟨by rw [State.unfitted_line], ?_, flag, member, fun carrier => absurd carrier lost⟩
    rw [State.unfitted_line]
    exact not_not.1 lost

/-- What a held presence change leaves on its own line (R62, R76). -/
theorem State.settlePresence_own (s : State) (m : RadioLine) :
    ((s.settlePresence m).lines.get (radioLine m)).presence = s.presentPin.mem m.val
    ∧ ((s.lines.get (radioLine m)).presence ≠ s.presentPin.mem m.val → (s.settlePresence m).nu.flags.mem 8 = true
        ∧ ((s.settlePresence m).nu.lineSets.get 2).mem m.val = true ∧ (((s.settlePresence m).lines.get (radioLine m)).grade = 0 ∨ s.presentPin.mem m.val = true))
    ∧ ((s.lines.get (radioLine m)).grade ≠ 0 → (s.lines.get (radioLine m)).presence = true → s.presentPin.mem m.val = false →
        State.Loses (radioLine m) s (s.settlePresence m)) := by
  unfold State.settlePresence
  split
  · next pin fitted =>
    refine ⟨?_, fun _ => ⟨(NoticeUnit.mem_raiseLine_flags _ _ _ (8 : Fin 17)).2 (.inr rfl), (NoticeUnit.mem_raiseLine_lines _ _ _ 2 (radioLine m)).2 (.inr ⟨rfl, rfl⟩), .inr pin⟩,
      fun _ present absent => ?_⟩
    · rw [pin]
      exact congrArg LinePort.presence (Table.get_modify_self s.lines (radioLine m) fun p => { p with presence := true })
    · rw [pin] at absent
      cases absent
  · next pin fitted =>
    obtain ⟨presence, grade, flag, member, loses⟩ := s.removeModem_own m
    exact ⟨presence.trans pin.symm, fun _ => ⟨flag, member, .inl grade⟩, fun carrier _ _ => loses carrier⟩
  · next pin fitted =>
    refine ⟨fitted.trans pin.symm, fun changed => absurd (fitted.trans pin.symm) changed, fun _ _ absent => ?_⟩
    rw [pin] at absent
    cases absent
  · next pin fitted =>
    refine ⟨fitted.trans pin.symm, fun changed => absurd (fitted.trans pin.symm) changed, fun _ present _ => ?_⟩
    rw [fitted] at present
    cases present

end Sys2Proof.Machine
end

section
/-! The end of the walk: held lock changes, and the whole of the step (R42, R63, R67, R76, R174). -/

namespace Sys2Proof.Machine

/-! ### A held lock change (R63, R67, R76) -/

section Lock
variable (s : State) (m : FibreLine)

/-- The line as a loss of lock finds it, before a carrier loss. -/
def State.unlocked : State := s.onLine (fibreLine m) fun p => { p with lock := false }

/-- The line as a lock gained finds it, before it takes its grade. -/
def State.locked : State := s.onLine (fibreLine m) fun p => { p with lock := true }

theorem State.unlocked_line : (s.unlocked m).lines.get (fibreLine m) = { s.lines.get (fibreLine m) with lock := false } := Table.get_modify_self ..

theorem State.locked_line : (s.locked m).lines.get (fibreLine m) = { s.lines.get (fibreLine m) with lock := true } := Table.get_modify_self ..

theorem State.loseLock_eq : s.loseLock m = if (s.lines.get (fibreLine m)).grade ≠ 0 then (s.unlocked m).carrierLoss (fibreLine m) else s.unlocked m := by
  have carrier : ((s.unlocked m).lines.get (fibreLine m)).carrier = decide ((s.lines.get (fibreLine m)).grade ≠ 0) := by
    rw [State.unlocked_line]
    rfl
  change (if ((s.unlocked m).lines.get (fibreLine m)).carrier then _ else _) = _
  rw [carrier]
  simp only [decide_eq_true_eq]
  rfl

/-- A line with carrier that takes another grade, its paths with it (R64). -/
def State.regraded (s : State) (l : Line) (grade : Fin 8) : State :=
  { s.onLine l fun p => { p with grade := grade } with paths := s.paths.map (graded l grade) }

theorem State.gainLock_eq : s.gainLock m = if (s.lines.get (fibreLine m)).grade ≠ 0 then (s.locked m).regraded (fibreLine m) 7
    else (carrierBack (s.locked m) (fibreLine m) 7).serve.boundary (fibreLine m) := by
  have grade : ((s.locked m).lines.get (fibreLine m)).grade = (s.lines.get (fibreLine m)).grade := by rw [State.locked_line]
  change (s.locked m).takeGrade (fibreLine m) 7 = _
  split
  · next carrier => exact State.takeGrade_change (by rw [grade]; exact carrier) (by decide)
  · next lost => exact State.takeGrade_return (by rw [grade]; exact not_not.1 lost) (by decide)

theorem State.loseLock_wakes : s.Wakes (s.loseLock m) := by
  rw [State.loseLock_eq]
  split
  · exact (s.onLine_wakes _ _).trans (State.carrierLoss_wakes _ _)
  · exact s.onLine_wakes _ _

theorem State.gainLock_wakes : s.Wakes (s.gainLock m) := by
  rw [State.gainLock_eq]
  split
  · exact (s.onLine_wakes _ _).trans ((State.onLine_wakes _ _ _).trans (State.graded_spares _ (fibreLine m) _ _).toWakes)
  · exact (s.onLine_wakes _ _).trans ((State.carrierBack_wakes _ _ _).trans ((State.serve_onlySends _).wakes.trans (State.boundary_onlySends _ _).wakes))

theorem State.settleLock_wakes : s.Wakes (s.settleLock m) := by
  unfold State.settleLock
  split
  · exact s.gainLock_wakes m
  · exact s.loseLock_wakes m
  · exact .refl s
  · exact .refl s

variable {m}

theorem State.loseLock_spares {l : Line} (other : l ≠ fibreLine m) : State.Spares l s (s.loseLock m) := by
  rw [State.loseLock_eq]
  split
  · exact (s.onLine_spares other _).trans (State.carrierLoss_spares other _)
  · exact s.onLine_spares other _

theorem State.gainLock_spares {l : Line} (other : l ≠ fibreLine m) : State.Spares l s (s.gainLock m) := by
  rw [State.gainLock_eq]
  split
  · exact (s.onLine_spares other _).trans ((State.onLine_spares _ other _).trans (State.graded_spares _ l _ _))
  · exact (s.onLine_spares other _).trans ((State.carrierBack_spares _ other _).trans ((State.serve_spares l _).trans (State.boundary_spares other _)))

/-- A held lock change spares the other lines. -/
theorem State.settleLock_spares {l : Line} (other : l ≠ fibreLine m) : State.Spares l s (s.settleLock m) := by
  unfold State.settleLock
  split
  · exact s.gainLock_spares other
  · exact s.loseLock_spares other
  · exact .refl l s
  · exact .refl l s

end Lock

/-- What a loss of lock leaves on its line (R63). -/
theorem State.loseLock_own (s : State) (m : FibreLine) : ((s.loseLock m).lines.get (fibreLine m)).lock = false ∧ ((s.loseLock m).lines.get (fibreLine m)).grade = 0
    ∧ ((s.lines.get (fibreLine m)).grade ≠ 0 → State.Loses (fibreLine m) s (s.loseLock m)) := by
  rw [State.loseLock_eq]
  split
  · obtain ⟨grade, -, lock⟩ := (s.unlocked m).carrierLoss_line (fibreLine m)
    refine ⟨by rw [lock, State.unlocked_line], grade, fun _ => ?_⟩
    exact ((s.unlocked m).carrierLoss_loses (fibreLine m)).of_before rfl (by rw [State.unlocked_line])
  · next lost =>
    refine ⟨by rw [State.unlocked_line], ?_, fun carrier => absurd carrier lost⟩
    rw [State.unlocked_line]
    exact not_not.1 lost

/-- What a lock gained leaves on its line (R63, R64, R67). -/
theorem State.gainLock_own (s : State) (m : FibreLine) : ((s.gainLock m).lines.get (fibreLine m)).lock = true ∧ ((s.gainLock m).lines.get (fibreLine m)).grade = 7
    ∧ ((s.lines.get (fibreLine m)).grade = 0 → (s.gainLock m).nu.flags.mem 7 = true ∧ ((s.gainLock m).nu.lineSets.get 1).mem (fibreLine m).val = true) := by
  rw [State.gainLock_eq]
  split
  · next carrier =>
    have line : ((s.locked m).regraded (fibreLine m) 7).lines.get (fibreLine m) = { s.lines.get (fibreLine m) with lock := true, grade := 7 } :=
      (Table.get_modify_self ..).trans (by rw [State.locked_line])
    exact ⟨by rw [line], by rw [line], fun lost => absurd lost carrier⟩
  · have line : (carrierBack (s.locked m) (fibreLine m) 7).lines.get (fibreLine m) = { s.lines.get (fibreLine m) with lock := true, grade := 7 } :=
      (Table.get_set_self ..).trans (by rw [State.locked_line])
    have sends := (State.serve_onlySends (carrierBack (s.locked m) (fibreLine m) 7)).trans (State.boundary_onlySends _ (fibreLine m))
    have told := sends.wakes.told
    refine ⟨by rw [(sends.lines _).lock, line], by rw [(sends.lines _).grade, line], fun _ => ⟨?_, ?_⟩⟩
    · exact told.flags 7 ((NoticeUnit.mem_raiseLine_flags ..).2 (.inr rfl))
    · exact told.lines 1 _ ((NoticeUnit.mem_raiseLine_lines ..).2 (.inr ⟨rfl, rfl⟩))

/-- What a held lock change leaves on its own line (R63, R67, R76). -/
theorem State.settleLock_own (s : State) (m : FibreLine) :
    ((s.settleLock m).lines.get (fibreLine m)).lock = s.lockPin.mem m.val
    ∧ ((s.lines.get (fibreLine m)).lock ≠ s.lockPin.mem m.val → ((s.settleLock m).lines.get (fibreLine m)).grade = if s.lockPin.mem m.val then 7 else 0)
    ∧ ((s.lines.get (fibreLine m)).lock = false → s.lockPin.mem m.val = true → (s.lines.get (fibreLine m)).grade = 0 →
        (s.settleLock m).nu.flags.mem 7 = true ∧ ((s.settleLock m).nu.lineSets.get 1).mem (fibreLine m).val = true)
    ∧ ((s.lines.get (fibreLine m)).grade ≠ 0 → (s.lines.get (fibreLine m)).lock = true → s.lockPin.mem m.val = false →
        State.Loses (fibreLine m) s (s.settleLock m)) := by
  unfold State.settleLock
  split
  · next pin off =>
    obtain ⟨lock, grade, told⟩ := s.gainLock_own m
    exact ⟨lock.trans pin.symm, fun _ => by rw [grade, pin]; rfl, fun _ _ lost => told lost, fun _ _ absent => absurd (absent.symm.trans pin) Bool.false_ne_true⟩
  · next pin on =>
    obtain ⟨lock, grade, loses⟩ := s.loseLock_own m
    exact ⟨lock.trans pin.symm, fun _ => by rw [grade, pin]; rfl, fun _ given => absurd (pin.symm.trans given) Bool.false_ne_true, fun carrier _ _ => loses carrier⟩
  · next pin on =>
    exact ⟨on.trans pin.symm, fun changed => absurd (on.trans pin.symm) changed, fun off => absurd (off.symm.trans on) Bool.false_ne_true, fun _ _ absent => absurd (absent.symm.trans pin) Bool.false_ne_true⟩
  · next pin off =>
    exact ⟨off.trans pin.symm, fun changed => absurd (off.trans pin.symm) changed, fun _ given => absurd (pin.symm.trans given) Bool.false_ne_true, fun _ on => absurd (off.symm.trans on) Bool.false_ne_true⟩

/-! ### All held changes, one after another (log 12) -/

theorem State.Spares.foldl {α : Type} {l : Line} (f : State → α → State) (hs : List α) (h : ∀ s, ∀ a ∈ hs, State.Spares l s (f s a)) (s : State) :
    State.Spares l s (hs.foldl f s) := by
  induction hs generalizing s with
  | nil => exact .refl l s
  | cons a hs ih => exact (h s a List.mem_cons_self).trans (ih (fun s b hb => h s b (List.mem_cons_of_mem _ hb)) _)

theorem State.Wakes.foldl {α : Type} (f : State → α → State) (hs : List α) (h : ∀ (s : State) (a : α), s.Wakes (f s a)) (s : State) : s.Wakes (hs.foldl f s) := by
  induction hs generalizing s with
  | nil => exact .refl s
  | cons a hs ih => exact (h s a).trans (ih _)

/-- A chain of steps, one for each line of a kind, comes to the step of one line between steps that spare it. -/
theorem State.foldl_own {n : Nat} {l : Line} (f : State → Fin n → State) (m : Fin n) (h : ∀ s k, k ≠ m → State.Spares l s (f s k)) (s : State) :
    ∃ a, State.Spares l s a ∧ State.Spares l (f a m) ((List.finRange n).foldl f s) := by
  obtain ⟨pre, post, split⟩ := List.append_of_mem (List.mem_finRange m)
  have once : (pre ++ m :: post).Nodup := by
    rw [← split]
    exact List.nodup_finRange n
  obtain ⟨-, tail, apart⟩ := List.nodup_append.1 once
  rw [split, List.foldl_append, List.foldl_cons]
  exact ⟨_, .foldl f pre (fun s k hk => h s k (apart k hk m List.mem_cons_self)) s,
    .foldl f post (fun s k hk => h s k fun e => (List.nodup_cons.1 tail).1 (e ▸ hk)) _⟩

/-- The units that run again: every measured path due and served, before held pin changes are taken (R42, R174). -/
def State.rescheduled (s : State) : State := (s.onSu (·.allDue (fun i => (s.paths.get i).measured) s.micros)).serve

/-- The held presence changes are taken, then the held lock changes (R76, log 12). -/
def State.settledPins (s : State) : State := (List.finRange 2).foldl State.settleLock ((List.finRange 4).foldl State.settlePresence s)

theorem radioLine_inj {k m : RadioLine} (h : k ≠ m) : radioLine m ≠ radioLine k := fun e => h (Fin.ext (Fin.ext_iff.1 e).symm)

theorem fibreLine_inj {k m : FibreLine} (h : k ≠ m) : fibreLine m ≠ fibreLine k := fun e => h (Fin.ext (by have := Fin.ext_iff.1 e; simp [fibreLine] at this; omega))

theorem radioLine_ne_fibreLine (k : RadioLine) (m : FibreLine) : radioLine k ≠ fibreLine m := fun e => by
  have := Fin.ext_iff.1 e
  simp only [radioLine, fibreLine] at this
  omega

theorem State.settledPins_wakes (s : State) : s.Wakes s.settledPins :=
  (State.Wakes.foldl _ _ State.settlePresence_wakes s).trans (.foldl _ _ State.settleLock_wakes _)

theorem State.settledPins_radio (s : State) (m : RadioLine) :
    ∃ a, State.Spares (radioLine m) s a ∧ State.Spares (radioLine m) (a.settlePresence m) s.settledPins := by
  obtain ⟨a, before, after⟩ := State.foldl_own (l := radioLine m) State.settlePresence m (fun s k h => s.settlePresence_spares (radioLine_inj h)) s
  exact ⟨a, before, after.trans (.foldl _ _ (fun s k _ => s.settleLock_spares (radioLine_ne_fibreLine m k)) _)⟩

theorem State.settledPins_fibre (s : State) (m : FibreLine) :
    ∃ a, State.Spares (fibreLine m) s a ∧ State.Spares (fibreLine m) (a.settleLock m) s.settledPins := by
  have presence : State.Spares (fibreLine m) s ((List.finRange 4).foldl State.settlePresence s) :=
    .foldl _ _ (fun s k _ => s.settlePresence_spares (radioLine_ne_fibreLine k m).symm) s
  obtain ⟨a, before, after⟩ := State.foldl_own (l := fibreLine m) State.settleLock m (fun s k h => s.settleLock_spares (fibreLine_inj h))
    ((List.finRange 4).foldl State.settlePresence s)
  exact ⟨a, presence.trans before, after⟩

/-- Pins at their kept levels change nothing (R76). -/
theorem State.settledPins_of_none_held {s : State} (presence : ∀ m : RadioLine, (s.lines.get (radioLine m)).presence = s.presentPin.mem m.val)
    (lock : ∀ m : FibreLine, (s.lines.get (fibreLine m)).lock = s.lockPin.mem m.val) : s.settledPins = s := by
  have fixed {α : Type} (f : State → α → State) (hs : List α) (h : ∀ a, f s a = s) : hs.foldl f s = s := by
    induction hs with
    | nil => rfl
    | cons a hs ih => rw [List.foldl_cons, h a, ih]
  have radio (m : RadioLine) : s.settlePresence m = s := by
    unfold State.settlePresence
    rw [presence m]
    cases s.presentPin.mem m.val <;> rfl
  have fibre (m : FibreLine) : s.settleLock m = s := by
    unfold State.settleLock
    rw [lock m]
    cases s.lockPin.mem m.val <;> rfl
  rw [State.settledPins, fixed _ _ radio, fixed _ _ fibre]

/-! ### Serving and the notice unit apart -/

section Notices
variable (s : State) (n : NoticeUnit)

/-- The state with another notice unit. -/
def State.withNotices : State := { s with nu := n }

theorem State.startNext_withNotices (l : Line) : (s.withNotices n).startNext l = (s.startNext l).withNotices n := by
  have sound (e : SoundEntry) (rest : List SoundEntry) : (s.withNotices n).startSound l e rest = (s.startSound l e rest).withNotices n := by
    simp only [State.startSound, State.withNotices, State.onLine]
    cases s.su.contexts.get e.context <;> rfl
  unfold State.startNext
  rw [show (s.withNotices n).lines = s.lines from rfl]
  cases (s.lines.get l).echoes with
  | cons e rest => rfl
  | nil =>
    cases (s.lines.get l).sounds with
    | cons d rest => exact sound d rest
    | nil => cases (s.lines.get l).choose <;> rfl

theorem State.boundary_withNotices (l : Line) : (s.withNotices n).boundary l = (s.boundary l).withNotices n := by
  obtain ⟨stays, same⟩ | ⟨idle, running, unusable, same⟩ | ⟨idle, running, usable, same⟩ := s.boundary_cases l <;> rw [same]
  · obtain sending | resetting := stays
    · exact State.boundary_of_sending (s := s.withNotices n) sending
    · exact if_pos (by rw [show (s.withNotices n).resetting = s.resetting from rfl, resetting, Bool.or_true])
  · exact State.boundary_of_unusable (s := s.withNotices n) running idle unusable
  · rw [State.boundary_of_usable (s := s.withNotices n) running idle usable]
    exact State.startNext_withNotices (s.onLine l LinePort.settled) n l

theorem State.servePath_withNotices (i : PathSlot) : (s.withNotices n).servePath i = (s.servePath i).withNotices n := by
  unfold State.servePath
  rw [show (s.withNotices n).canIssue i = s.canIssue i from rfl, show (s.withNotices n).su = s.su from rfl]
  split
  · cases s.su.freeContext with
    | none => dsimp only; split <;> rfl
    | some c => exact State.boundary_withNotices (s.sounding i c) n _
  · rfl

/-- The issue of due soundings moves past a change of the notice unit. -/
theorem State.serve_withNotices : (s.withNotices n).serve = s.serve.withNotices n := by
  have all (l : List PathSlot) : l.foldl State.servePath (s.withNotices n) = (l.foldl State.servePath s).withNotices n := by
    induction l generalizing s with
    | nil => rfl
    | cons i l ih =>
      rw [List.foldl_cons, List.foldl_cons, s.servePath_withNotices n]
      exact ih _
  rw [State.serve_eq, State.serve_eq, show (s.withNotices n).resetting = s.resetting from rfl, show (s.withNotices n).serveOrder = s.serveOrder from rfl]
  split
  · rfl
  · exact all _

/-- The issue of due soundings moves past a change of the port and of the notice unit. -/
theorem State.serve_apart (c : CommandPort) (same : c.engine.resetting = s.resetting) :
    State.serve { s with cmp := c, nu := n } = { s.serve with cmp := c, nu := n } := by
  have moved := State.serve_withNotices (s.withPort c) n
  rw [s.serve_withPort c same] at moved
  exact moved

end Notices

/-! ### The end of the walk (R174) -/

section Finish
variable (s : State)

/-- The last of the step: timers armed, SOFT RESET DONE raised, the response waiting (R174). -/
def State.finished : State := (s.restartTimers.raisePlain .softResetDone).onCmp fun c => { c with buffer := some ⟨0x03, .done, []⟩ }

/-- The units with the engine IDLE again, before held pin changes are taken (R174). -/
def State.woken : State := (s.onCmp fun c => { c with engine := .idle }).rescheduled

theorem State.endWalk_eq (walking : s.cmp.engine = .walking) : s.endWalk = s.woken.settledPins.finished := if_pos walking

theorem State.woken_spares (l : Line) : State.Spares l (s.onCmp fun c => { c with engine := .idle }) s.woken := by
  refine State.Spares.trans (t := (s.onCmp fun c => { c with engine := .idle }).onSu (·.allDue (fun i => (s.paths.get i).measured) s.micros)) ?_ (State.serve_spares l _)
  exact ⟨⟨rfl, rfl, rfl, rfl, rfl, .refl _, fun _ h => ⟨h, rfl⟩⟩, rfl, rfl, rfl, rfl, fun x => ⟨x.grade, x.urgent, x.normal, x.tx, x.echoes, x.sounds, x.contexts⟩,
    fun _ _ _ => ⟨rfl, rfl⟩⟩

theorem State.finished_line (l : Line) : s.finished.lines.get l =
    { s.lines.get l with timer := if (radioOf l).isSome && (s.lines.get l).carrier then some (s.clock + 2000000) else none } := Table.get_mapIdx ..

theorem State.finished_told : s.nu.Within s.finished.nu :=
  ⟨fun f h => (FlagSet.mem_insert _ _ _ f.isLt).trans (by rw [show s.restartTimers.nu = s.nu from rfl, h, Bool.true_or]), fun _ _ h => h, fun _ _ h => h⟩

/-- The last of the step spares every line but for its timer. -/
theorem State.Loses.finished {l : Line} {s t : State} (h : State.Loses l s t) : State.Loses l s t.finished := by
  have line := t.finished_line l
  have told := t.finished_told
  exact ⟨told.flags 6 h.flag, told.lines 0 l h.member,
    ⟨by rw [line, h.still.grade], by rw [line, h.still.urgent], by rw [line, h.still.normal], by rw [line, h.still.tx], by rw [line, h.still.echoes],
      by rw [line, h.still.sounds], h.still.contexts⟩, by rw [line, h.losses],
    fun i live on => ⟨(h.paths i live on).1, (h.paths i live on).2.1, fun fresh => ⟨told.flags 2 ((h.paths i live on).2.2 fresh).1, told.paths 2 i ((h.paths i live on).2.2 fresh).2⟩⟩⟩

end Finish

/-- The schedule at the end of the walk, path by path (R42). -/
theorem SoundingUnit.allDue_get (u : SoundingUnit) (measured : PathSlot → Bool) (micros : Nat) (i : PathSlot) :
    (u.allDue measured micros).nextDue.get i = (if measured i then some micros else u.nextDue.get i) ∧ (u.allDue measured micros).due.mem i.val = measured i :=
  ⟨Table.get_mapIdx .., FlagSet.mem_ofPred ..⟩

theorem State.OnlySends.nu {s t : State} (h : s.OnlySends t) : t.nu = s.nu := by rw [h.rest]

section Whole
variable (s : State)

/-- What the whole step makes of a radio line: its own change between steps that spare it. -/
theorem State.woken_radio (m : RadioLine) : ∃ a, State.Spares (radioLine m) (s.onCmp fun c => { c with engine := .idle }) a
    ∧ State.Spares (radioLine m) (a.settlePresence m) s.woken.settledPins := by
  obtain ⟨a, before, after⟩ := s.woken.settledPins_radio m
  exact ⟨a, (s.woken_spares _).trans before, after⟩

theorem State.woken_fibre (m : FibreLine) : ∃ a, State.Spares (fibreLine m) (s.onCmp fun c => { c with engine := .idle }) a
    ∧ State.Spares (fibreLine m) (a.settleLock m) s.woken.settledPins := by
  obtain ⟨a, before, after⟩ := s.woken.settledPins_fibre m
  exact ⟨a, (s.woken_spares _).trans before, after⟩

theorem State.woken_wakes : (s.onCmp fun c => { c with engine := .idle }).Wakes s.woken.settledPins :=
  (s.woken_spares 0).toWakes.trans s.woken.settledPins_wakes

end Whole

/-- A loss behind steps that spare the line. -/
theorem State.Loses.after {l : Line} {s t u : State} (h : State.Spares l s t) (k : State.Loses l t u) : State.Loses l s u := by
  refine ⟨k.flag, k.member, k.still, by rw [k.losses, h.losses], fun i live on => ?_⟩
  obtain ⟨live', line'⟩ := h.measured i live
  obtain ⟨faded, stale, told⟩ := k.paths i live' (line'.trans on)
  exact ⟨faded, stale, fun fresh => told (by rw [(h.weather i live on).1]; exact fresh)⟩

theorem radioOf_fibreLine (m : FibreLine) : radioOf (fibreLine m) = none := radioOf_fibre (Nat.le_add_left ..)

/-- A modem removed, or a lock lost, on a line with carrier is a carrier loss of the line (R62, R63, R66). -/
theorem State.woken_loses {s : State} {l : Line} (carrier : (s.lines.get l).grade ≠ 0)
    (cut : (∃ r : RadioLine, l = radioLine r ∧ (s.lines.get l).presence = true ∧ s.presentPin.mem r.val = false)
      ∨ ∃ f : FibreLine, l = fibreLine f ∧ (s.lines.get l).lock = true ∧ s.lockPin.mem f.val = false) :
    State.Loses l (s.onCmp fun c => { c with engine := .idle }) s.woken.settledPins := by
  obtain ⟨m, rfl, present, absent⟩ | ⟨m, rfl, locked, absent⟩ := cut
  · obtain ⟨a, before, after⟩ := s.woken_radio m
    obtain ⟨-, -, loses⟩ := a.settlePresence_own m
    have lost := loses (by rw [before.grade]; exact carrier) (by rw [before.presence]; exact present) (by rw [before.presentPin]; exact absent)
    exact State.Loses.after before (lost.then (a.settlePresence_wakes m) after)
  · obtain ⟨a, before, after⟩ := s.woken_fibre m
    obtain ⟨-, -, -, loses⟩ := a.settleLock_own m
    have lost := loses (by rw [before.grade]; exact carrier) (by rw [before.lock]; exact locked) (by rw [before.lockPin]; exact absent)
    exact State.Loses.after before (lost.then (a.settleLock_wakes m) after)

/-- Settles O35: each line's own change between steps that spare it, and without a held change the service alone. -/
theorem endOfWalkWakesTheUnits : Obligations.EndOfWalkWakesTheUnits := by
  refine ⟨fun s other => congrArg Host.Outcome.next (if_neg other), fun s walking => ?_⟩
  have wakes := s.woken_wakes
  have told := s.woken.settledPins.finished_told
  refine ⟨s.woken.settledPins.finished, congrArg Host.Outcome.next (s.endWalk_eq walking), ?_, ?_, ?_, fun m => ?_, fun m => ?_, fun l carrier cut => ?_, fun presence lock => ?_⟩
  · change { s.woken.settledPins.cmp with buffer := some ⟨0x03, .done, []⟩ } = _
    rw [wakes.cmp]
    rfl
  · exact (FlagSet.mem_insert _ _ _ (by decide)).trans (by simp [PlainEvent.kind])
  · change some (⟨0, s.woken.settledPins.settings.windowLength⟩ : WindowTimer) = _
    rw [wakes.settings]
    rfl
  · obtain ⟨a, before, after⟩ := s.woken_radio m
    obtain ⟨presence, changed, -⟩ := a.settlePresence_own m
    rw [before.presentPin, before.presence] at changed
    rw [before.presentPin] at presence
    rw [State.finished_line, wakes.clock, radioOf_radioLine]
    refine ⟨after.presence.trans presence, ?_, fun held => ?_⟩
    · simp only [Bool.true_and, LinePort.carrier, decide_eq_true_eq]
      rfl
    · obtain ⟨flag, member, cut⟩ := changed held
      exact ⟨told.flags 8 (after.told.flags 8 flag), told.lines 2 (radioLine m) (after.told.lines 2 (radioLine m) member), cut.imp_left after.grade.trans⟩
  · obtain ⟨a, before, after⟩ := s.woken_fibre m
    obtain ⟨lock, changed, gained, -⟩ := a.settleLock_own m
    rw [before.lockPin, before.lock] at changed
    rw [before.lockPin, before.lock, before.grade] at gained
    rw [before.lockPin] at lock
    rw [State.finished_line, radioOf_fibreLine]
    refine ⟨after.lock.trans lock, rfl, fun held => after.grade.trans (changed held), fun off on lost => ?_⟩
    obtain ⟨flag, member⟩ := gained off on lost
    exact ⟨told.flags 7 (after.told.flags 7 flag), told.lines 1 (fibreLine m) (after.told.lines 1 (fibreLine m) member)⟩
  · have lost := (State.woken_loses carrier cut).finished
    obtain ⟨grade, urgent, normal, tx, echoes, sounds, contexts⟩ := lost.still
    exact ⟨lost.flag, lost.member, grade, urgent, normal, tx, echoes, sounds, lost.losses, contexts, lost.paths⟩
  · have none : s.woken.settledPins = s.woken := by
      refine State.settledPins_of_none_held (fun m => ?_) fun m => ?_
      · have spares := s.woken_spares (radioLine m)
        exact spares.presence.trans ((presence m).trans (by rw [spares.presentPin]; rfl))
      · have spares := s.woken_spares (fibreLine m)
        exact spares.lock.trans ((lock m).trans (by rw [spares.lockPin]; rfl))
    rw [none]
    refine ⟨s.su.allDue (fun i => (s.paths.get i).measured) s.micros, rfl, fun i => SoundingUnit.allDue_get .., ?_⟩
    intro v
    have apart : v = { s.woken with cmp := s.woken.finished.cmp, nu := { s.nu with flags := s.nu.flags.insert 16 } } := by
      refine State.serve_apart ((s.onCmp fun c => { c with engine := .idle }).onSu (·.allDue (fun i => (s.paths.get i).measured) s.micros)) _ _ ?_
      change s.woken.cmp.engine.resetting = false
      rw [(s.woken_spares 0).cmp]
      rfl
    have told : s.woken.nu = s.nu := (State.serve_onlySends _).nu
    rw [apart]
    refine ⟨?_, fun l => State.finished_line s.woken l ▸ rfl⟩
    rw [← told]
    rfl

end Sys2Proof.Machine
end

section
/-! Due paths in their turns: who comes when, and what each takes (R23 to R29). -/

namespace Sys2Proof.Machine

/-! ### Free contexts, in order (R26) -/

/-- The free contexts, lowest first. -/
def State.frees (s : State) : List ContextId := (List.finRange 16).filter fun c => (s.su.contexts.get c).isNone

theorem State.mem_frees {s : State} {c : ContextId} : c ∈ s.frees ↔ s.su.contexts.get c = none := by simp [State.frees]

theorem State.frees_sorted (s : State) : s.frees.Pairwise (· < ·) := (List.pairwise_lt_finRange 16).filter _

theorem State.frees_length (s : State) : s.frees.length = (List.finRange 16).countP fun c => (s.su.contexts.get c).isNone := List.countP_eq_length_filter.symm

/-- The lowest free context is the first. -/
theorem State.freeContext_eq (s : State) : s.su.freeContext = s.frees.head? := by
  cases frees : s.frees with
  | nil =>
    refine Table.lowest_none.2 fun c => Bool.eq_false_iff.2 fun free => ?_
    have mem : c ∈ s.frees := State.mem_frees.2 (Option.isNone_iff_eq_none.1 free)
    rw [frees] at mem
    cases mem
  | cons c rest =>
    have free : c ∈ s.frees := by rw [frees]; exact List.mem_cons_self
    refine SoundingUnit.freeContext_eq (State.mem_frees.1 free) fun m below at_m => ?_
    have mem : m ∈ s.frees := State.mem_frees.2 at_m
    have sorted := s.frees_sorted
    rw [frees] at mem sorted
    obtain rfl | later := List.mem_cons.1 mem
    · exact lt_irrefl _ below
    · exact lt_asymm below ((List.pairwise_cons.1 sorted).1 m later)

/-- Contexts that are free in the same places give the same list. -/
theorem State.frees_congr {s t : State} (h : ∀ c, t.su.contexts.get c = none ↔ s.su.contexts.get c = none) : t.frees = s.frees := by
  refine List.filter_congr fun c _ => ?_
  rw [Bool.eq_iff_iff, Option.isNone_iff_eq_none, Option.isNone_iff_eq_none, h c]

/-- A context taken leaves the list of the others. -/
theorem State.frees_taken {s t : State} {c : ContextId} {rest : List ContextId} (frees : s.frees = c :: rest)
    (h : ∀ m, t.su.contexts.get m = none ↔ m ≠ c ∧ s.su.contexts.get m = none) : t.frees = rest := by
  have fewer : t.frees = s.frees.filter fun m => decide (m ≠ c) := by
    rw [State.frees, State.frees, List.filter_filter]
    refine List.filter_congr fun m _ => ?_
    rw [Bool.eq_iff_iff, Bool.and_eq_true, decide_eq_true_eq, Option.isNone_iff_eq_none, Option.isNone_iff_eq_none, h m]
  have once := (List.pairwise_cons.1 (frees ▸ s.frees_sorted)).1
  rw [fewer, frees, List.filter_cons_of_neg (by simp)]
  exact List.filter_eq_self.2 fun m hm => decide_eq_true (ne_of_gt (once m hm))

/-- How many free contexts lie below one of the list is its place in the list. -/
theorem State.frees_rank {s : State} {n : Nat} {c : ContextId} (h : s.frees[n]? = some c) :
    ((List.finRange 16).countP fun m => (s.su.contexts.get m).isNone && decide (m < c)) = n := by
  have counted : ((List.finRange 16).countP fun m => (s.su.contexts.get m).isNone && decide (m < c)) = s.frees.countP fun m => decide (m < c) := by
    rw [State.frees, List.countP_filter]
    exact List.countP_congr fun m _ => by rw [Bool.and_comm]
  obtain ⟨short, is⟩ := List.getElem?_eq_some_iff.1 h
  have split : s.frees = s.frees.take n ++ c :: s.frees.drop (n + 1) := by
    rw [← is, List.getElem_cons_drop, List.take_append_drop]
  have sorted := s.frees_sorted
  rw [split] at sorted
  obtain ⟨-, tail, apart⟩ := List.pairwise_append.1 sorted
  have below : (s.frees.take n).countP (fun m => decide (m < c)) = n := by
    rw [List.countP_eq_length.2 fun m hm => decide_eq_true (apart m hm c List.mem_cons_self), List.length_take, Nat.min_eq_left short.le]
  have above : (c :: s.frees.drop (n + 1)).countP (fun m => decide (m < c)) = 0 := by
    refine List.countP_eq_zero.2 fun m hm => ?_
    obtain rfl | later := List.mem_cons.1 hm
    · simp
    · simpa using ((List.pairwise_cons.1 tail).1 m later).le
  rw [counted, split, List.countP_append, below, above, Nat.add_zero]

/-- Each free context has its place in the list. -/
theorem State.frees_place {s : State} {c : ContextId} (free : s.su.contexts.get c = none) :
    s.frees[(List.finRange 16).countP fun m => (s.su.contexts.get m).isNone && decide (m < c)]? = some c := by
  obtain ⟨n, short, is⟩ := List.getElem_of_mem (State.mem_frees.2 free)
  have at_n : s.frees[n]? = some c := List.getElem?_eq_some_iff.2 ⟨short, is⟩
  rw [State.frees_rank at_n, at_n]

/-! ### What a number of turns takes (R26, R27) -/

/-- The generator after `n` draws (R27). -/
def drawnFrom (v : BitVec 16) (n : Nat) : BitVec 16 := (List.range n).foldl (fun v _ => jitterNext v) v

theorem drawnFrom_succ (v : BitVec 16) (n : Nat) : drawnFrom v (n + 1) = jitterNext (drawnFrom v n) := by
  rw [drawnFrom, List.range_succ, List.foldl_append]
  rfl

/-- A state in which `n` paths that could issue had their turns: the lowest free contexts are taken, with their ids and draws. -/
structure State.Served (s : State) (n : Nat) (u : State) : Prop where
  frees : u.frees = s.frees.drop n
  nextId : u.su.nextId = s.su.nextId + BitVec.ofNat 16 (min n s.frees.length)
  jitter : u.su.jitter = drawnFrom s.su.jitter (min n s.frees.length)

theorem State.Departs.free_iff {s t : State} {l : Line} (h : State.Departs l s t) (c : ContextId) : t.su.contexts.get c = none ↔ s.su.contexts.get c = none := by
  refine ⟨fun free => ?_, h.free c⟩
  cases at_s : s.su.contexts.get c with
  | none => rfl
  | some x =>
    obtain ⟨y, at_t, -⟩ := h.taken c x at_s
    cases free.symm.trans at_t

/-- A turn with no context free takes none (R28). -/
theorem State.Served.turn_full {s u : State} {n : Nat} {i : PathSlot} (h : s.Served n u) (can : u.canIssue i = true) (full : s.frees.length ≤ n) :
    s.Served (n + 1) (u.servePath i) := by
  have none : u.frees = [] := h.frees.trans (List.drop_eq_nil_of_le full)
  have same : u.servePath i = if u.su.waiting.mem i.val then u else u.deferred i :=
    State.servePath_full can fun c free => by
      have mem := State.mem_frees.2 free
      rw [none] at mem
      cases mem
  have su : (u.servePath i).su.contexts = u.su.contexts ∧ (u.servePath i).su.nextId = u.su.nextId ∧ (u.servePath i).su.jitter = u.su.jitter := by
    rw [same]
    split <;> exact ⟨rfl, rfl, rfl⟩
  obtain ⟨contexts, nextId, jitter⟩ := su
  refine ⟨?_, ?_, ?_⟩
  · rw [State.frees_congr (s := u) fun c => by rw [contexts], none, List.drop_eq_nil_of_le (Nat.le_succ_of_le full)]
  · rw [nextId, h.nextId, Nat.min_eq_right full, Nat.min_eq_right (Nat.le_succ_of_le full)]
  · rw [jitter, h.jitter, Nat.min_eq_right full, Nat.min_eq_right (Nat.le_succ_of_le full)]

/-- A turn while a context is free takes the lowest one (R26). -/
theorem State.Served.turn_free {s u : State} {n : Nat} {i : PathSlot} (h : s.Served n u) (can : u.canIssue i = true) (room : n < s.frees.length) :
    ∃ c, s.frees[n]? = some c ∧ State.Departs (u.paths.get i).line (u.sounding i c) (u.servePath i) ∧ s.Served (n + 1) (u.servePath i) := by
  have first : u.frees = s.frees[n] :: s.frees.drop (n + 1) := by rw [h.frees, List.drop_eq_getElem_cons room]
  obtain ⟨cannot, -⟩ | ⟨-, c, free, departs⟩ | ⟨-, free, -⟩ := u.servePath_turn i
  · cases cannot.symm.trans can
  · have lowest := free
    rw [State.freeContext_eq, first, List.head?_cons, Option.some.injEq] at lowest
    refine ⟨c, List.getElem?_eq_some_iff.2 ⟨room, lowest⟩, departs, ?_, ?_, ?_⟩
    · rw [lowest] at first
      refine State.frees_taken first fun m => (departs.free_iff m).trans ?_
      simp only [State.sounding, SoundingUnit.issue, Table.get_set]
      split <;> simp_all
    · rw [departs.su]
      change u.su.nextId + 1 = _
      rw [h.nextId, Nat.min_eq_left room.le, Nat.min_eq_left room, BitVec.add_assoc]
      congr 1
      exact (BitVec.ofNat_add ..).symm
    · rw [departs.su]
      change jitterNext u.su.jitter = _
      rw [h.jitter, Nat.min_eq_left room.le, Nat.min_eq_left room, drawnFrom_succ]
  · rw [State.freeContext_eq, first] at free
    cases free

/-! ### Turns one after another (R28) -/

/-- A path that had no turn yet can issue exactly when it could before. -/
theorem State.canIssue_foldl {s : State} {i : PathSlot} {pre : List PathSlot} (absent : i ∉ pre) : (pre.foldl State.servePath s).canIssue i = s.canIssue i := by
  have sounds := State.Sounds.foldl pre s
  have line : ((pre.foldl State.servePath s).paths.get i).line = (s.paths.get i).line := by rw [sounds.paths i]
  rw [State.canIssue, State.canIssue, (State.Leaves.foldl absent s).due, line, (sounds.lines _).usable]

/-- The turns of distinct paths take as many contexts as paths among them could issue. -/
theorem State.served_foldl {s : State} {pre : List PathSlot} (once : pre.Nodup) : s.Served (pre.countP s.canIssue) (pre.foldl State.servePath s) := by
  induction pre using List.reverseRecOn with
  | nil => exact ⟨rfl, by simp, by simp [drawnFrom]⟩
  | append_singleton pre i ih =>
    obtain ⟨before, -, apart⟩ := List.nodup_append.1 once
    have absent : i ∉ pre := fun h => apart i h i (List.mem_singleton_self i) rfl
    have served := ih before
    have same := State.canIssue_foldl (s := s) absent
    rw [List.foldl_append, List.countP_append, List.countP_singleton, List.foldl_cons, List.foldl_nil]
    by_cases can : s.canIssue i = true
    · rw [if_pos can]
      rw [can] at same
      obtain room | full := Nat.lt_or_ge (pre.countP s.canIssue) s.frees.length
      · obtain ⟨-, -, -, next⟩ := served.turn_free same room
        exact next
      · exact served.turn_full same full
    · rw [if_neg can, Nat.add_zero, State.servePath_blocked (same.trans (Bool.eq_false_iff.2 can))]
      exact served

/-! ### The order of the turns (R26, R28, log 33) -/

/-- Whether path `k` has its turn before path `i`. -/
def State.precedes (s : State) (k i : PathSlot) : Bool :=
  if s.contextsSuffice then decide (k < i)
  else (s.su.waiting.mem k.val && !s.su.waiting.mem i.val) || (decide (s.su.waiting.mem k.val = s.su.waiting.mem i.val) && decide (k < i))

theorem State.serveOrder_precedes (s : State) : s.serveOrder.Pairwise fun k i => s.precedes k i = true := by
  have slots := List.pairwise_lt_finRange 32
  unfold State.serveOrder
  split
  · next suffice => exact slots.imp fun h => by rw [State.precedes, if_pos suffice]; exact decide_eq_true h
  · next short =>
    refine List.pairwise_append.2 ⟨?_, ?_, fun k hk i hi => ?_⟩
    · refine (List.pairwise_filter.2 (slots.imp fun {k i} h kept kept' => ?_))
      rw [State.precedes, if_neg short]
      simp [kept, kept', h]
    · refine (List.pairwise_filter.2 (slots.imp fun {k i} h kept kept' => ?_))
      rw [State.precedes, if_neg short]
      simp_all
    · have member := (List.mem_filter.1 hk).2
      have other := (List.mem_filter.1 hi).2
      rw [State.precedes, if_neg short]
      simp_all

theorem State.precedes_asymm {s : State} {k i : PathSlot} (h : s.precedes k i = true) : s.precedes i k = false := by
  revert h
  unfold State.precedes
  split
  · simp only [decide_eq_true_eq, decide_eq_false_iff_not, not_lt]
    exact le_of_lt
  · cases s.su.waiting.mem k.val <;> cases s.su.waiting.mem i.val <;> simp <;> exact le_of_lt

/-- How many paths that could issue have their turns before path `i`. -/
def State.turnOf (s : State) (i : PathSlot) : Nat := (List.finRange 32).countP fun k => s.canIssue k && s.precedes k i

/-- The paths before a path in the order are those that count for its turn. -/
theorem State.turnOf_eq {s : State} {i : PathSlot} {pre post : List PathSlot} (split : s.serveOrder = pre ++ i :: post) : pre.countP s.canIssue = s.turnOf i := by
  have ordered := s.serveOrder_precedes
  rw [split] at ordered
  obtain ⟨-, tail, apart⟩ := List.pairwise_append.1 ordered
  have self : s.precedes i i = false := by
    cases h : s.precedes i i with
    | false => rfl
    | true => exact h.symm.trans (State.precedes_asymm h)
  have later : (i :: post).countP (fun k => s.canIssue k && s.precedes k i) = 0 := by
    refine List.countP_eq_zero.2 fun k hk => ?_
    obtain rfl | hk := List.mem_cons.1 hk
    · simp [self]
    · simp [State.precedes_asymm ((List.pairwise_cons.1 tail).1 k hk)]
  have earlier : pre.countP (fun k => s.canIssue k && s.precedes k i) = pre.countP s.canIssue :=
    List.countP_congr fun k hk => by simp [apart k hk i List.mem_cons_self]
  rw [State.turnOf, ← s.serveOrder_perm.countP_eq, split, List.countP_append, later, earlier, Nat.add_zero]

/-! ### What the service makes of each path (R24 to R29) -/

/-- A path that cannot issue stays in its place. -/
theorem State.serve_unready {s : State} {i : PathSlot} (running : s.resetting = false) (cannot : s.canIssue i = false) : State.Leaves i s s.serve := by
  obtain ⟨pre, post, -, -, notPre, notPost, split⟩ := State.serve_split running i
  rw [split, State.servePath_blocked ((State.canIssue_foldl notPre).trans cannot)]
  exact (State.Leaves.foldl notPre s).trans (.foldl notPost _)

/-- A path whose turn comes while a context is free: issued in it, with its id and draw (R24, R26, R27). -/
theorem State.serve_issued {s : State} {i : PathSlot} (running : s.resetting = false) (can : s.canIssue i = true) (room : s.turnOf i < s.frees.length) :
    let p := s.paths.get i
    s.serve.su.due.mem i.val = false ∧ s.serve.su.waiting.mem i.val = false
    ∧ s.serve.su.nextDue.get i = some (s.micros + p.tuning.interval * 1000 + jitterMicros (drawnFrom s.su.jitter (s.turnOf i + 1)) p.tuning.interval)
    ∧ (s.serve.paths.get i).counters.soundingsDeferred = p.counters.soundingsDeferred
    ∧ ∃ c x, s.frees[s.turnOf i]? = some c ∧ s.serve.su.contexts.get c = some x ∧ (p.newContext i (s.su.nextId + BitVec.ofNat 16 (s.turnOf i))).Departed x := by
  intro p
  obtain ⟨pre, post, order, once, notPre, notPost, split⟩ := State.serve_split running i
  have served := State.served_foldl (s := s) once
  have before := State.Leaves.foldl notPre s
  have sounds := State.Sounds.foldl pre s
  rw [State.turnOf_eq order] at served
  obtain ⟨c, place, departs, -⟩ := served.turn_free ((State.canIssue_foldl notPre).trans can) room
  have after := State.Leaves.foldl notPost ((pre.foldl State.servePath s).servePath i)
  have record : (pre.foldl State.servePath s).paths.get i = { p with counters := { p.counters with
      soundingsSent := ((pre.foldl State.servePath s).paths.get i).counters.soundingsSent
      soundingsDeferred := ((pre.foldl State.servePath s).paths.get i).counters.soundingsDeferred } } := sounds.paths i
  have clock : (pre.foldl State.servePath s).micros = s.micros := by rw [sounds.rest]; rfl
  rw [split]
  refine ⟨?_, ?_, ?_, ?_, ?_⟩
  · rw [after.due, departs.su]
    exact (FlagSet.mem_erase_fin ..).trans (by simp)
  · rw [after.waiting, departs.su]
    exact (FlagSet.mem_erase_fin ..).trans (by simp)
  · rw [after.nextDue, departs.su]
    refine (Table.get_set_self ..).trans ?_
    rw [clock, served.jitter, Nat.min_eq_left room.le, ← drawnFrom_succ, record]
  · rw [after.deferred, departs.paths i]
    exact before.deferred
  · have taken : ((pre.foldl State.servePath s).sounding i c).su.contexts.get c =
        some (((pre.foldl State.servePath s).paths.get i).newContext i (pre.foldl State.servePath s).su.nextId) := Table.get_set_self ..
    obtain ⟨y, at_y, first⟩ := departs.taken c _ taken
    obtain ⟨z, at_z, second⟩ := (State.Sounds.foldl post _).taken c y at_y
    refine ⟨c, z, place, at_z, ?_⟩
    have same : ((pre.foldl State.servePath s).paths.get i).newContext i (pre.foldl State.servePath s).su.nextId
        = p.newContext i (s.su.nextId + BitVec.ofNat 16 (s.turnOf i)) := by
      rw [record, served.nextId, Nat.min_eq_left room.le]
      rfl
    rw [← same]
    exact first.trans second

/-- A path whose turn comes with no context free waits, its deferral counted once (R28). -/
theorem State.serve_deferred {s : State} {i : PathSlot} (running : s.resetting = false) (can : s.canIssue i = true) (full : s.frees.length ≤ s.turnOf i) :
    let p := s.paths.get i
    s.serve.su.due.mem i.val = true ∧ s.serve.su.waiting.mem i.val = true ∧ s.serve.su.nextDue.get i = s.su.nextDue.get i ∧ (∀ c, s.serve.su.contexts.get c ≠ none)
    ∧ (s.serve.paths.get i).counters.soundingsDeferred = if s.su.waiting.mem i.val = false then bump p.counters.soundingsDeferred else p.counters.soundingsDeferred := by
  intro p
  obtain ⟨pre, post, order, once, notPre, notPost, split⟩ := State.serve_split running i
  have served := State.served_foldl (s := s) once
  have before := State.Leaves.foldl notPre s
  rw [State.turnOf_eq order] at served
  have ready := (State.canIssue_foldl (s := s) notPre).trans can
  have taken : ∀ c, (pre.foldl State.servePath s).su.contexts.get c ≠ none := fun c free => by
    have mem := State.mem_frees.2 free
    rw [served.frees, List.drop_eq_nil_of_le full] at mem
    cases mem
  have turn := State.servePath_full ready taken
  have sounds := (State.servePath_sounds (pre.foldl State.servePath s) i).trans (.foldl post _)
  have after := State.Leaves.foldl notPost ((pre.foldl State.servePath s).servePath i)
  rw [split]
  have own : ((pre.foldl State.servePath s).servePath i).su.due = (pre.foldl State.servePath s).su.due
      ∧ ((pre.foldl State.servePath s).servePath i).su.nextDue = (pre.foldl State.servePath s).su.nextDue
      ∧ ((pre.foldl State.servePath s).servePath i).su.waiting.mem i.val = true
      ∧ (((pre.foldl State.servePath s).servePath i).paths.get i).counters.soundingsDeferred
        = if s.su.waiting.mem i.val = false then bump p.counters.soundingsDeferred else p.counters.soundingsDeferred := by
    rw [turn, before.waiting]
    cases waits : s.su.waiting.mem i.val with
    | true => exact ⟨rfl, rfl, before.waiting.trans waits, before.deferred⟩
    | false =>
      refine ⟨rfl, rfl, (FlagSet.mem_insert_fin ..).trans (by simp), ?_⟩
      have deferred : (((pre.foldl State.servePath s).deferred i).paths.get i).counters.soundingsDeferred
          = bump ((pre.foldl State.servePath s).paths.get i).counters.soundingsDeferred := congrArg (fun p : Path => p.counters.soundingsDeferred) (Table.get_set_self ..)
      exact deferred.trans (by rw [before.deferred]; rfl)
  obtain ⟨due, nextDue, waiting, deferred⟩ := own
  refine ⟨?_, after.waiting.trans waiting, ?_, fun c free => ?_, after.deferred.trans deferred⟩
  · rw [after.due, due]
    exact (Bool.and_eq_true_iff.1 ready).1
  · rw [after.nextDue, nextDue, before.nextDue]
  · obtain ⟨x, at_x⟩ := Option.ne_none_iff_exists'.1 (taken c)
    obtain ⟨y, at_y, -⟩ := sounds.taken c x at_x
    cases free.symm.trans at_y

/-- The whole service takes as many contexts as paths could issue (R26). -/
theorem State.serve_served {s : State} (running : s.resetting = false) : s.Served ((List.finRange 32).countP s.canIssue) s.serve := by
  have served := State.served_foldl (s := s) (s.serveOrder_perm.nodup_iff.2 (List.nodup_finRange 32))
  rw [s.serveOrder_perm.countP_eq] at served
  rw [State.serve_eq, if_neg (by simp [running])]
  exact served

/-- Settles O44: the order of the turns, what each takes, and what the whole service comes to. -/
theorem duePathsAreServedInSlotOrder : Obligations.DuePathsAreServedInSlotOrder := by
  refine fun s => ⟨fun resetting => (State.serve_eq s).trans (if_pos resetting), ?_⟩
  intro running t ready free wanted room member before turn issued drawn
  have sounds := s.serve_sounds
  have ready_eq : ready = s.canIssue := funext fun i => by
    simp only [ready, State.canIssue, LinePort.usable, LinePort.carrier, Bool.and_assoc]
  have room_eq : room = s.frees.length := s.frees_length.symm
  have suffice : s.contextsSuffice = decide (wanted ≤ room) := by
    simp only [wanted, ready_eq]
    rfl
  have before_eq (k i : PathSlot) : before k i = s.precedes k i := by
    simp only [before, State.precedes, suffice, decide_eq_true_eq]
    rfl
  have turn_eq (i : PathSlot) : turn i = s.turnOf i := by
    simp only [turn, ready_eq, before_eq]
    rfl
  have drawn_eq (n : Nat) : drawn n = drawnFrom s.su.jitter n := rfl
  have served := State.serve_served running
  have deferred (i : PathSlot) : (t.paths.get i).counters.soundingsDeferred =
      if ready i = true ∧ room ≤ turn i ∧ member i = false then bump (s.paths.get i).counters.soundingsDeferred else (s.paths.get i).counters.soundingsDeferred := by
    rw [ready_eq, room_eq, turn_eq]
    by_cases can : s.canIssue i = true
    · obtain early | full := Nat.lt_or_ge (s.turnOf i) s.frees.length
      · obtain ⟨-, -, -, same, -⟩ := State.serve_issued running can early
        rw [if_neg fun h => Nat.not_le.2 early h.2.1]
        exact same
      · obtain ⟨-, -, -, -, counted⟩ := State.serve_deferred running can full
        simp only [can, full, true_and]
        exact counted
    · rw [if_neg fun h => can h.1]
      exact (State.serve_unready running (Bool.eq_false_iff.2 can)).deferred
  refine ⟨sounds.rest, sounds.lines, fun i => ?_, fun i unready => ?_, fun i ⟨can, early⟩ => ?_, fun i can full => ?_, ?_, ?_, fun c free_c beyond => ?_, sounds.taken⟩
  · rw [← deferred]
    exact sounds.paths i
  · rw [ready_eq] at unready
    have leaves := State.serve_unready running unready
    exact ⟨leaves.due, leaves.waiting, leaves.nextDue⟩
  · rw [ready_eq] at can
    rw [turn_eq, room_eq] at early
    obtain ⟨due, waiting, nextDue, -, c, x, place, at_c, taken⟩ := State.serve_issued running can early
    rw [turn_eq]
    refine ⟨due, waiting, nextDue, c, x, ?_, State.frees_rank place, at_c, ?_⟩
    · exact Option.isNone_iff_eq_none.2 (State.mem_frees.1 (List.mem_of_getElem? place))
    · rw [← timeoutOf_eq, taken]
      exact ⟨rfl, rfl, rfl, rfl, rfl⟩
  · rw [ready_eq] at can
    rw [turn_eq, room_eq] at full
    obtain ⟨due, waiting, nextDue, taken, -⟩ := State.serve_deferred running can full
    exact ⟨due, waiting, nextDue, taken⟩
  · rw [room_eq]
    simp only [wanted, ready_eq]
    exact served.nextId
  · rw [room_eq, drawn_eq]
    simp only [wanted, ready_eq]
    exact served.jitter
  · refine (State.mem_frees (s := t)).1 ?_
    have place := State.frees_place (Option.isNone_iff_eq_none.1 free_c)
    have rest : t.frees = s.frees.drop wanted := by
      simp only [wanted, ready_eq]
      exact served.frees
    rw [rest]
    refine List.mem_of_getElem? (i := ((List.finRange 16).countP fun m => free m && decide (m < c)) - wanted) ?_
    rw [List.getElem?_drop, Nat.add_sub_cancel' beyond]
    exact place

end Sys2Proof.Machine
end
